-- ==== Sys2Proof/Word.lean ====
section
/-! DEFINITION. The plain values of the BX-416: bytes, sample words, identifiers, banks of like things,
and the counting that stops at a top value or wraps. -/
namespace Sys2Proof

/-- A byte of a packet, of the setup image or of a port frame. -/
abbrev Byte := BitVec 8

/-- A sample word (Table 0-2: words of 32 bits). -/
abbrev Word := BitVec 32

/-- A station ID, 0 to 15. -/
abbrev StationId := Fin 16

/-- A channel number, 0 to 7, outbound or inbound. -/
abbrev Channel := Fin 8

/-- A stream number, 0 to 255. -/
abbrev Stream := Fin 256

/-- A lane, 0 to 23. -/
abbrev Lane := Fin 24

/-- A phase, 0 to 3. -/
abbrev Phase := Fin 4

/-- A rank, 0 to 7, lower being better. -/
abbrev Rank := Fin 8

/-- A count that stops at its top value. -/
def capAdd (top a b : Nat) : Nat := min top (a + b)

/-- The number after `a` in a numbering that wraps after `size` numbers. -/
def succWrap (size a : Nat) : Nat := (a + 1) % size

/-- The number before `a` in a numbering that wraps after `size` numbers. -/
def predWrap (size a : Nat) : Nat := (a + (size - 1)) % size

/-- A fixed number of like things, indexed from 0: a list together with its length. -/
structure Bank (n : Nat) (α : Type) where
  list : List α
  length_eq : list.length = n
deriving DecidableEq, Repr

namespace Bank

variable {n : Nat} {α β : Type}

/-- The thing with number `i`. -/
def get (b : Bank n α) (i : Fin n) : α := b.list[i.val]'(by rw [b.length_eq]; exact i.isLt)

/-- The bank with thing number `i` replaced. -/
def set (b : Bank n α) (i : Fin n) (a : α) : Bank n α := ⟨b.list.set i.val a, by simp [b.length_eq]⟩

/-- The bank whose things are all `a`. -/
def fill (n : Nat) (a : α) : Bank n α := ⟨List.replicate n a, by simp⟩

/-- The bank whose thing number `i` is `f i`. -/
def ofFn (f : Fin n → α) : Bank n α := ⟨List.ofFn f, by simp⟩

/-- Every thing changed by `f`. -/
def map (f : α → β) (b : Bank n α) : Bank n β := ⟨b.list.map f, by simp [b.length_eq]⟩

/-- Every thing changed by `f`, which is told its number. -/
def mapIdx (f : Fin n → α → β) (b : Bank n α) : Bank n β := ofFn fun i => f i (b.get i)

/-- Thing number `i` changed by `f`. -/
def modify (b : Bank n α) (i : Fin n) (f : α → α) : Bank n α := b.set i (f (b.get i))

/-- How many things pass the test. -/
def count (p : α → Bool) (b : Bank n α) : Nat := b.list.countP p

end Bank

end Sys2Proof
end

