-- ==== Sys2Proof/Syntax.lean ====
section
/-! DEFINITION. The commands the BX-416 takes, one constructor for each row of spec/opcode_table.json in its order, and
the packets and operands they carry. The table gives its rows no operands: they are read from the rules (log 4). -/
namespace Sys2Proof

/-- How the station's clock stands to its reference (R21), in the order of the encodings of Table 11-4. -/
inductive LockState where
  | unlocked | acquiring | locked | holdover
deriving DecidableEq, Repr

/-- Reference quality of a MARK (1.8). -/
inductive RefQuality where
  | house | own
deriving DecidableEq, Repr

/-- The two reference inputs of R22. -/
inductive RefInput where
  | trunkPair | houseInput
deriving DecidableEq, Repr

/-- State field of a presence word (1.8). -/
inductive WordState where
  | joined | leaving
deriving DecidableEq, Repr

/-- Guard state field of a presence word and of a Roster entry (1.8, R46). -/
inductive WordGuard where
  | clear | watch | quiet
deriving DecidableEq, Repr

/-- One slot, lane.phase. -/
structure Slot where
  lane : Lane
  phase : Phase
deriving DecidableEq, Repr

/-- Who holds a slot, and for which stream (R72). -/
structure Holding where
  holder : StationId
  stream : Stream
deriving DecidableEq, Repr

/-- MARK (1.8, Table 11-3). -/
structure Mark where
  source : StationId
  round : Nat
  time : Nat
  period : Nat
  epoch : Nat
  view : BitVec 16
  quality : RefQuality
  pageIndex : Fin 12
  page : Bank 8 (Option Holding)
deriving DecidableEq, Repr

/-- Presence word (1.8, Table 11-4). -/
structure Presence where
  station : StationId
  state : WordState
  lock : LockState
  guard : WordGuard
  eligible : Bool
  rank : Rank
  trouble : Bool
  held : Nat
deriving DecidableEq, Repr

/-- The flags a SAMPLE carries (1.8). -/
structure SampleFlags where
  first : Bool
  last : Bool
  freeTime : Bool
  timeStep : Bool
  dropped : Bool
deriving DecidableEq, Repr

/-- SAMPLE (1.8, Table 11-5). Its word count is the number of its words. -/
structure Sample where
  holder : StationId
  stream : Stream
  lane : Lane
  tag : Nat
  time : Nat
  flags : SampleFlags
  words : List Word
deriving DecidableEq, Repr

/-- CLAIM (1.8): the slots in the order the claimant chose them. -/
structure Claim where
  station : StationId
  stream : Stream
  slots : List Slot
deriving DecidableEq, Repr

/-- RELEASE (1.8). -/
structure Release where
  station : StationId
  stream : Stream
  slots : List Slot
deriving DecidableEq, Repr

/-- JOIN (1.8). -/
structure Join where
  station : StationId
  eligible : Bool
  rank : Rank
deriving DecidableEq, Repr

/-- LEAVE (1.8). -/
structure Leave where
  station : StationId
deriving DecidableEq, Repr

/-- HANDOFF (1.8). -/
structure Handoff where
  source : StationId
  successor : Option StationId
  lastRound : Nat
deriving DecidableEq, Repr

/-- TAKEOVER (1.8). -/
structure Takeover where
  station : StationId
  rank : Rank
  time : Nat
  period : Nat
  epoch : Nat
  nextRound : Nat
deriving DecidableEq, Repr

/-- TRIGGER (1.8); also the record of a trigger that windows take (R141). -/
structure Trigger where
  station : StationId
  sequence : Nat
  time : Nat
  entry : Fin 16
deriving DecidableEq, Repr

/-- A packet of one of the ten kinds of Table 1-3. -/
inductive Packet where
  | mark (m : Mark)
  | presence (p : Presence)
  | sample (p : Sample)
  | claim (c : Claim)
  | release (r : Release)
  | join (j : Join)
  | leave (l : Leave)
  | handoff (h : Handoff)
  | takeover (t : Takeover)
  | trigger (t : Trigger)
deriving DecidableEq, Repr

/-- The classes of Table 1-2, best first. -/
inductive ArbClass where
  | positional | handoff | takeover | trigger | leave | release | claim | join
deriving DecidableEq, Repr

/-- An arbitration key: class priority, then the sender's station ID (R12). -/
structure ArbKey where
  cls : ArbClass
  station : StationId
deriving DecidableEq, Repr

/-- What this station finds on the data pair when one of its positions begins: whether an earlier packet still
passes (R8), and the best key of another station that starts at the same instant (R12). -/
structure PairAt where
  busy : Bool
  rival : Option ArbKey
deriving DecidableEq, Repr

/-- Start of a capture window (Table 7-1). -/
inductive WindowStart where
  | immediate
  | atTime (t : Nat)
deriving DecidableEq, Repr

/-- Stop of a capture window (Table 7-1). -/
inductive WindowStop where
  | never
  | count (n : Nat)
  | atTime (t : Nat)
  | trigger (n : Nat)
deriving DecidableEq, Repr

/-- Direction operand of READ-CHANNEL (R170). -/
inductive Direction where
  | outbound | inbound
deriving DecidableEq, Repr

/-- Record classes of the service port (Table 10-2). -/
inductive RecordClass where
  | station | roster | slot | map | timebase | guard | outbound | inbound | window | trigger | setup
deriving DecidableEq, Repr

/-- A command: one row of the table of operations and events. -/
inductive Instr where
  | powerOn
  | resetInput
  | supplyLoss
  | setupLoadEnd (straps : StationId) (supplied : List Byte)
  | ejectRise
  | ejectFall
  | startLineRise
  | startLineFall
  | referenceAppears (input : RefInput)
  | referenceLost (input : RefInput)
  | acquisitionComplete
  | holdoverExpiry
  | rackTimeHoldEnd
  | cutIn
  | cutOut
  | markDue (pair : PairAt)
  | roundBoundary
  | joiningTimeout
  | rollCallStart
  | rollCallPosition (pair : PairAt)
  | laneStart (lane : Lane) (pair : PairAt)
  | contentionOpportunity (index : Fin 4) (rival : Option ArbKey)
  | quietGapEnd (rival : Option ArbKey)
  | failedPacketReceived (heard : List Byte)
  | readBackFailed
  | driveLimitCutOff
  | repeaterCutOff
  | takeMark (m : Mark) (received : Nat)
  | missedMark
  | markTimeout
  | backoffExpiry
  | unframedSourceTimeout
  | emptyTrunkListenExpiry
  | emptyTrunkAttemptTimeout
  | takeTakeover (t : Takeover) (received : Nat)
  | takeHandoff (h : Handoff)
  | takePresenceWord (p : Presence)
  | takeJoin (j : Join)
  | takeLeave (l : Leave)
  | takeClaim (c : Claim)
  | takeRelease (r : Release)
  | takeSample (p : Sample)
  | takeTrigger (t : Trigger)
  | triggerLineChange (levels : BitVec 4)
  | filterTimeExpiry
  | blankingEnd
  | guardPeriodEnd
  | leavingTimeout
  | push (ch : Channel) (word : Word)
  | openOut (ch : Channel)
  | closeNow (ch : Channel)
  | closeDrain (ch : Channel)
  | openIn (ch : Channel)
  | closeIn (ch : Channel)
  | holdIn (ch : Channel)
  | resumeIn (ch : Channel)
  | armIn (ch : Channel) (start : WindowStart) (stop : WindowStop)
  | disarmIn (ch : Channel)
  | readDelivery (ch : Channel)
  | readMemory (page : Byte) (offset : Byte) (count : BitVec 16)
  | takePair (ch : Channel)
  | returnPair (ch : Channel)
  | readChannel (direction : Direction) (ch : Channel)
  | unknownFrameRequest (frame : List Byte)
  | resultCollected
  | serviceReadLive (cls : RecordClass) (index : Byte)
  | serviceReadSnapshot (cls : RecordClass) (index : Byte)
  | snapshot
  | readSummary
  | rejoin
  | leave
  | clearIsolation
  | unknownServiceRequest (frame : List Byte)
  | serviceAnswerSent
deriving DecidableEq, Repr

end Sys2Proof
end

