-- ==== Sys2Proof/Config.lean ====
section
/-! DEFINITION. The figures of the part (Table 0-2 and the numbers single rules give), every one stated by the spec, and
the one value that a rule leaves open, as a free value. -/
namespace Sys2Proof.Config

/-- Rack time stops at this value (R24). -/
def rackTimeMax : Nat := 281474976710655

/-- Counters of 48 bits stop at this value (R94). -/
def counter48Max : Nat := 281474976710655

/-- Counters of 32 bits stop at this value (R117, R145). -/
def counter32Max : Nat := 4294967295

/-- Round numbers and map epochs wrap after this many (R6, R73). -/
def roundNumbers : Nat := 65536

/-- Sample tags wrap after this many (Table 0-2). -/
def sampleTags : Nat := 4096

/-- Trigger sequences wrap after this many (R141). -/
def triggerSequences : Nat := 256

/-- Shortest round period (Table 0-2). -/
def periodMin : Nat := 2000

/-- Longest round period (Table 0-2). -/
def periodMax : Nat := 20000

/-- A quiet gap, in ticks (R10). -/
def quietGap : Nat := 64

/-- How long the transmitter may drive the pair for one packet (R19). -/
def driveLimit : Nat := 200

/-- Entries of the control queue (R14). -/
def queueEntries : Nat := 8

/-- Ordinary entries the control queue admits (R14). -/
def ordinaryEntries : Nat := 6

/-- Entries of an outbound queue (R94). -/
def outboundEntries : Nat := 512

/-- Records of a delivery log (R117). -/
def logRecords : Nat := 16

/-- Most words of a SAMPLE (Table 0-2). -/
def sampleWords : Nat := 16

/-- Words of Sample Memory (R116). -/
def memoryWords : Nat := 16384

/-- Words of one page of Sample Memory (R116). -/
def pageWords : Nat := 256

/-- Most slots of one station (Table 0-2). -/
def stationSlots : Nat := 16

/-- Most slots of one stream (Table 0-2). -/
def streamSlots : Nat := 8

/-- Round periods an acquisition takes (R21). -/
def acquisitionPeriods : Nat := 16

/-- Round periods a HOLDOVER lasts (R21). -/
def holdoverPeriods : Nat := 4096

/-- Round periods of the mark timeout (R32). -/
def timeoutPeriods : Nat := 3

/-- Image periods of the empty-trunk listen and of the empty-trunk attempt (R41, R42). -/
def listenPeriods : Nat := 8

/-- Round periods of the leaving timeout (R63). -/
def leavingPeriods : Nat := 8

/-- Boundaries of the joining timeout (R59). -/
def joiningBoundaries : Nat := 8

/-- Round periods unframed after a source loss before SOURCE is raised again (R44). -/
def lossPeriods : Nat := 4

/-- Gathering MARKs at which a gathering fails (R88). -/
def gatherLimit : Nat := 24

/-- Boundaries within which a resync counts as consecutive (R86). -/
def consecutiveBoundaries : Nat := 12

/-- The rank that counts where none is known (R30). -/
def noRank : Nat := 8

/-- Offset of the roll call in a round (Table 1-1). -/
def rollCallOffset : Nat := 160

/-- Length of one roll-call position (Table 1-1). -/
def rollCallTicks : Nat := 16

/-- Offset of the lanes in a round (Table 1-1). -/
def laneOffset : Nat := 416

/-- Length of one lane (Table 1-1). -/
def laneTicks : Nat := 56

/-- Offset of the open window in a round (Table 1-1). -/
def windowOffset : Nat := 1760

/-- Length of one opportunity of the open window (Table 1-1). -/
def opportunityTicks : Nat := 60

/-- Bytes of the setup image (R179). -/
def imageBytes : Nat := 256

/-- Largest word count of a capture window's COUNT or TRIGGER stop (R145). -/
def windowCountMax : Nat := 16777215

/-- The holder ID of the `n`th ENDED record of a channel that has neither a last holder nor a stream holder: R135 names no
third source for it, so nothing is known of this value (log 25). -/
opaque unknownHolder : Nat → Fin 16

end Sys2Proof.Config
end

