-- ==== Sys2Proof/Machine/State.lean ====
section
/-! DEFINITION. The whole state of the station, block by block (Table 0-1), and the state right after reset. -/
namespace Sys2Proof.Machine

/-- No command of the spec stops the station with a fault (INVENTORY, Faults), so there is no reason to list. -/
inductive Fault where
deriving DecidableEq, Repr

/-- Reasons for having no meaning. -/
inductive Refusal where
  /-- Raised by exec for a row that has no meaning yet; safe, since a stop proves nothing. No row is left so. -/
  | notModelled (mnemonic : String)
deriving DecidableEq, Repr

/-- Levels of the input pins, which the outside drives (R138, R175, R177, R21, R22). -/
structure Pins where
  eject : Bool
  start : Bool
  lines : BitVec 4
  trunkRef : Bool
  houseRef : Bool
deriving DecidableEq, Repr

/-- Rack time (R24), the count of the local clock (R21), and the local count at which a hold of rack time ends (R25). -/
structure Clock where
  ticks : Nat
  rack : Nat
  holdUntil : Nat
deriving DecidableEq, Repr

/-- Position of the bypass switch (R1). -/
inductive Switch where
  | closed | inline
deriving DecidableEq, Repr

/-- An entry of the control queue with its owner (R14). A release with no channel belongs to the Lane Map's
reconciliation (R89). The fields R13 fills at the start are not held here. -/
inductive QueueEntry where
  | claim (ch : Channel) (c : Claim)
  | release (owner : Option Channel) (r : Release)
  | join (j : Join)
  | leave (l : Leave)
  | handoff (source : StationId) (successor : Option StationId)
  | takeover (emptyTrunk : Bool) (station : StationId) (rank : Rank)
deriving DecidableEq, Repr

/-- What R11 counts: whether a control packet was sent in this round or on this unframed trunk, how many quiet gaps
have ended since, and whether a whole packet of another station was heard since. -/
structure Pace where
  sent : Bool
  gaps : Nat
  heard : Bool
deriving DecidableEq, Repr

/-- The packet this station's transmitter has on the pair, the queue entry it came from, and the local count at its
start (R18, R19). -/
structure Sending where
  packet : Packet
  entry : Option QueueEntry
  startedAt : Nat
deriving DecidableEq, Repr

/-- Trunk Interface. -/
structure Trunk where
  switch : Switch
  queue : List QueueEntry
  waiting : List QueueEntry
  pace : Pace
  sending : Option Sending
  gapStart : Nat
  repeaterOff : Bool
deriving DecidableEq, Repr

/-- Section and position of the round (R6, Table 1-1). -/
inductive Position where
  | mark
  | rollCallBegin
  | rollCall (k : StationId)
  | lane (l : Lane)
  | window (k : Fin 4)
deriving DecidableEq, Repr

/-- How the round now begun stands to its MARK (log 10): `begun` when the MARK was sent, taken or counted missed;
`reckoned` when only its boundary was declared; `closed` when its boundary ended it and no next round is predicted. -/
inductive Opening where
  | begun | reckoned | closed
deriving DecidableEq, Repr

/-- Sections of a framed round (Table 1-1). -/
inductive Section where
  | mark | rollCall | lanes | openWindow
deriving DecidableEq, Repr

/-- Round Framer (R6); `position` is the last position whose row came. -/
structure Framer where
  framed : Bool
  round : Nat
  period : Nat
  start : Nat
  position : Position
  opening : Opening
deriving DecidableEq, Repr

/-- A MARK that is expected or due: its rack time and the round it opens. -/
structure MarkAt where
  time : Nat
  round : Nat
deriving DecidableEq, Repr

/-- Election of R34. -/
inductive Election where
  | idle
  | backoff (due : Nat)
  | takeoverQueued
deriving DecidableEq, Repr

/-- Empty-trunk listen and attempt of R41 and R42. -/
inductive Listen where
  | idle
  | running (due : Nat)
  | ranOut
  | cutIn (due : Nat)
deriving DecidableEq, Repr

/-- Timebase Unit. -/
structure Timebase where
  lock : LockState
  lockDue : Option Nat
  period : Nat
  role : Bool
  designated : Option StationId
  designatedRank : Nat
  lastMark : Nat
  missed : Nat
  expected : Option MarkAt
  timeoutBase : Nat
  orphan : Bool
  unsent : Nat
  pageCounter : Fin 12
  markDue : Option MarkAt
  lastSent : Nat
  otherMark : Option (StationId × Nat)
  election : Election
  listen : Listen
  lastQuality : Option RefQuality
  lossDue : Option Nat
deriving DecidableEq, Repr

/-- Station states (R45), in the order of the rule. -/
inductive StationState where
  | setup | setupFault | ready | listening | learning | joining | joined | leaving | parked | isolated | blocked
deriving DecidableEq, Repr

/-- Block reasons (R45). -/
inductive BlockReason where
  | idConflict | learnFail | joinFail
deriving DecidableEq, Repr

/-- Leave outcomes (R45). -/
inductive LeaveOutcome where
  | parked | listening
deriving DecidableEq, Repr

/-- Station record (R45). -/
structure StationRecord where
  state : StationState
  blockReason : Option BlockReason
  leaveOutcome : Option LeaveOutcome
  learnFails : Nat
  joinFails : Nat
  leaveTimeouts : Nat
  viewOmissions : Nat
deriving DecidableEq, Repr

/-- What the Membership Controller counts and waits for beside the station record (R52, R56, R57, R60 to R64), with the
rounds in which the own presence word last passed read-back, the latest first (R61, log 41). -/
structure Progress where
  learnBoundaries : Nat
  learned : Bool
  joinBoundaries : Nat
  emptyTrunk : Bool
  leavingDue : Option Nat
  ownLeaveTaken : Bool
  leaveClosingDue : Bool
  presenceOn : Bool
  ownWordRounds : List Nat
  lastView : BitVec 16
deriving DecidableEq, Repr

/-- State of a Roster entry (R46). -/
inductive EntryState where
  | absent | joining | present
deriving DecidableEq, Repr

/-- Roster entry (R46). -/
structure RosterEntry where
  state : EntryState
  eligible : Bool
  rank : Rank
  lock : LockState
  guard : WordGuard
  trouble : Bool
  held : Nat
  miss : Nat
  joinedRound : Option Nat
  lastHeard : Option Nat
  source : Bool
deriving DecidableEq, Repr

/-- What R53 asks of an entry in a round: whether it was JOINING or PRESENT when the roll call began, and whether a
presence word of it was taken. -/
structure RollMark where
  inCall : Bool
  heard : Bool
deriving DecidableEq, Repr

/-- Slot entry (R72). -/
structure SlotEntry where
  holding : Option Holding
  grantEpoch : Option Nat
deriving DecidableEq, Repr

/-- Resync state (R86). -/
inductive Resync where
  | none | gathering | reconciling
deriving DecidableEq, Repr

/-- Lane Map. -/
structure LaneMap where
  entries : Bank 96 SlotEntry
  epoch : Nat
  resync : Resync
  gathered : Bank 12 Bool
  gatherMarks : Nat
  consecutive : Nat
  boundariesSince : Nat
  outstanding : Nat
  lastTest : Option Bool
  stray : Nat
  mismatch : Bank 16 Nat
  compared : Bank 16 Bool
  foundOwn : Bool
  awaitCheck : Bool
  failed : Bool
  departures : List StationId
deriving DecidableEq, Repr

/-- Overflow policy (R97). -/
inductive Overflow where
  | dropNew | dropOld
deriving DecidableEq, Repr

/-- Outbound definition (R94). -/
structure OutDef where
  stream : Stream
  wanted : Nat
  policy : Overflow
  autoOpen : Bool
deriving DecidableEq, Repr

/-- Outbound channel states (R95). -/
inductive OutState where
  | closed | opening | opened | openShort | paused | closing | failed | conflict | lost
deriving DecidableEq, Repr

/-- Lock mark of a queue entry (R96). -/
inductive LockMark where
  | locked | unlockedTime
deriving DecidableEq, Repr

/-- Entry of an outbound queue (R96). -/
structure QueuedWord where
  word : Word
  time : Nat
  lock : LockMark
deriving DecidableEq, Repr

/-- Last claim outcome (Table 5-1). -/
inductive LastOutcome where
  | counts (granted taken cap : Nat)
  | streamConflict
  | notMember
deriving DecidableEq, Repr

/-- Where a CLOSING channel goes (Table 5-1). -/
inductive ClosingTo where
  | closed | lost
deriving DecidableEq, Repr

/-- Running record of an outbound channel (Table 5-1) but for its queue. -/
structure OutRun where
  state : OutState
  slots : List Slot
  claims : List (List Slot)
  attempts : Nat
  nextTag : Nat
  firstPending : Bool
  drain : Bool
  closePending : Bool
  closingTo : Option ClosingTo
  timeStep : Bool
  dropped : Bool
  slotsLost : Nat
  lastOutcome : Option LastOutcome
  accepted : Nat
  sent : Nat
  discarded : Nat
  refused : Nat
  packets : Nat
deriving DecidableEq, Repr

/-- Outbound channel: definition, queue, running record, the RELEASEs of it that are outstanding (R110) and whether an
attempt without a candidate waits to complete (R100). -/
structure OutChannel extends OutRun where
  defn : OutDef
  queue : List QueuedWord
  releasesOut : Nat
  emptyAttempt : Bool
deriving DecidableEq, Repr

/-- Mode of an inbound channel (R117). -/
inductive InMode where
  | ring | pair
deriving DecidableEq, Repr

/-- Invalid policy (R124). -/
inductive InvalidPolicy where
  | keep | skip
deriving DecidableEq, Repr

/-- Trigger acceptance (R145). -/
inductive Acceptance where
  | localOnly
  | any
  | fromStation (s : StationId)
deriving DecidableEq, Repr

/-- Inbound definition (R117). -/
structure InDef where
  stream : Stream
  base : Fin 64
  pages : Nat
  mode : InMode
  policy : InvalidPolicy
  acceptance : Acceptance
deriving DecidableEq, Repr

/-- Inbound channel states (R118). -/
inductive InState where
  | closed | waiting | receiving | held
deriving DecidableEq, Repr

/-- Descriptor of a pair half (R125). -/
structure HalfDesc where
  tag : Nat
  time : Nat
  count : Nat
  holder : StationId
deriving DecidableEq, Repr

/-- The flags that may pend on a channel (Table 6-1). -/
structure PendingFlags where
  invalidSkipped : Bool
  heldDropped : Bool
  gap : Bool
  recordsLost : Bool
deriving DecidableEq, Repr

/-- Flags of a delivery record (Table 6-2), in the bit order of Table 11-7. -/
structure RecordFlags where
  gap : Bool
  invalid : Bool
  invalidSkipped : Bool
  heldDropped : Bool
  newHolder : Bool
  last : Bool
  ended : Bool
  timeStep : Bool
  freeTime : Bool
  dropped : Bool
  trigger : Bool
  recordsLost : Bool
  superseded : Bool
deriving DecidableEq, Repr

/-- Delivery record (R131). -/
structure Delivery where
  tag : Nat
  time : Nat
  count : Nat
  offset : Option Nat
  holder : StationId
  flags : RecordFlags
deriving DecidableEq, Repr

/-- Counters of an inbound channel (Table 6-1). -/
structure InCounters where
  packets : Nat
  words : Nat
  gaps : Nat
  invalidKept : Nat
  invalidSkipped : Nat
  heldDropped : Nat
  withheld : Nat
  superseded : Nat
  recordsLost : Nat
deriving DecidableEq, Repr

/-- States of a capture window (R145). -/
inductive WindowState where
  | idle | armed | capturing | done
deriving DecidableEq, Repr

/-- Window record (Table 7-1); the acceptance is the definition's. -/
structure Window where
  state : WindowState
  start : Option WindowStart
  stop : Option WindowStop
  taken : Option Trigger
  attach : Bool
  captured : Nat
  sinceTrigger : Nat
deriving DecidableEq, Repr

/-- Running record of an inbound channel (Table 6-1) but for its log and window. -/
structure InRun where
  state : InState
  holder : Option StationId
  committed : Nat
  extent : Nat
  latest : Option (Fin 2)
  hold : Option (Fin 2)
  descs : Bank 2 (Option HalfDesc)
  expectedTag : Option Nat
  lastHolder : Option StationId
  lastTag : Option Nat
  endSeen : Bool
  pendingFlags : PendingFlags
  timeStep : Bool
  heldDrop : Nat
  counters : InCounters
deriving DecidableEq, Repr

/-- Inbound channel. -/
structure InChannel extends InRun where
  defn : InDef
  log : List Delivery
  window : Window
deriving DecidableEq, Repr

/-- Sample Memory: listed bytes, strictly rising by byte address, none of them zero. -/
abbrev Memory := List Host.Cell

/-- Actions of the condition table (R139). -/
inductive Action where
  | nothing | localTrigger | rackTrigger
deriving DecidableEq, Repr

/-- What the setup image gives the Trigger Unit (7.1). -/
structure TriggerSettings where
  mask : BitVec 4
  filter : Nat
  blanking : Nat
  table : Bank 16 Action
deriving DecidableEq, Repr

/-- A level change that waits for the filter time: the rack time of the change and the local count at its end (R138). -/
structure Candidate where
  time : Nat
  due : Nat
deriving DecidableEq, Repr

/-- Trigger Unit. -/
structure TriggerUnit where
  settings : TriggerSettings
  filtered : BitVec 4
  candidates : Bank 4 (Option Candidate)
  blankUntil : Nat
  nextSeq : Nat
  pendingTrigger : Option Trigger
  overruns : Nat
  lastMade : Option Trigger
  lastSeq : Bank 16 (Option Nat)
deriving DecidableEq, Repr

/-- Guard states (R158). -/
inductive GuardState where
  | clear | watch | quiet | isolated
deriving DecidableEq, Repr

/-- Current interval of the guard (R155); an UNFRAMED period carries the rack time of its end. -/
inductive Interval where
  | none
  | framed
  | unframed (due : Nat)
deriving DecidableEq, Repr

/-- Kind of a judged interval (R165). -/
inductive IntervalKind where
  | framed | unframed
deriving DecidableEq, Repr

/-- Report counts of an interval (R154). -/
structure ReportCounts where
  echo : Nat
  line : Nat
  stuck : Nat
deriving DecidableEq, Repr

/-- Reports and notices of the current interval (Table 8-1), with whether a LEAVE was taken in it and whether LEAVE
blanking was due when it began (R156). -/
structure Reports where
  counts : ReportCounts
  joinOrLeave : Bool
  blanked : Bool
  leaveTaken : Bool
  leaveAtBegin : Bool
deriving DecidableEq, Repr

/-- Result of a judgement (R156, R157). -/
inductive Verdict where
  | faulted | clean | blanked
deriving DecidableEq, Repr

/-- Last judgement (Table 8-1). -/
structure Judgement where
  kind : IntervalKind
  round : Nat
  result : Verdict
  counts : ReportCounts
deriving DecidableEq, Repr

/-- Trip record (Table 8-3). -/
structure Trip where
  round : Nat
  kind : IntervalKind
  time : Nat
  state : StationState
  counts : ReportCounts
  faults : Nat
  quietAt : Nat
  isolateAt : Nat
deriving DecidableEq, Repr

/-- Thresholds Q, I, Q_r and B (R153). -/
structure Thresholds where
  quiet : Nat
  isolate : Nat
  recover : Nat
  blanking : Nat
deriving DecidableEq, Repr

/-- Guard record (Table 8-1). -/
structure GuardRecord where
  state : GuardState
  faults : Nat
  clean : Nat
  blanking : Nat
  interval : Interval
  reports : Reports
  leaveDue : Bool
  trouble : Bool
  troubleHold : Nat
  last : Option Judgement
  faulted : Nat
  quietEntries : Nat
  trip : Option Trip
  thresholds : Thresholds
deriving DecidableEq, Repr

/-- Result codes of the frame port (R172), in the order of Table 11-12. -/
inductive FrameCode where
  | done | started | full | busy | empty | refusedState | refusedRange
deriving DecidableEq, Repr

/-- The outbound channel as READ-CHANNEL returns it (R115). -/
structure OutView where
  defn : OutDef
  run : OutRun
  depth : Nat
  headTime : Option Nat
deriving DecidableEq, Repr

/-- The inbound channel as READ-CHANNEL returns it (R136). -/
structure InView where
  defn : InDef
  run : InRun
  logCount : Nat
  oldestTag : Option Nat
  window : Window
deriving DecidableEq, Repr

/-- What a frame-port result carries (R172). -/
inductive FramePayload where
  | nothing
  | delivery (d : Delivery)
  | words (ws : List Word)
  | half (h : Fin 2) (d : HalfDesc)
  | outbound (v : OutView)
  | inbound (v : InView)
deriving DecidableEq, Repr

/-- A frame-port result: request kind, channel or starting page, starting offset, code, payload (Table 11-12). -/
structure FrameResult where
  kind : Byte
  channel : Byte
  offset : Byte
  code : FrameCode
  payload : FramePayload
deriving DecidableEq, Repr

/-- A port's state (R169, R183). `deciding` is the rules' state of a port whose request is being decided; the model
decides a request within the step that takes it, so no step leaves a port there (log 31). -/
inductive Port (ρ : Type) where
  | idle
  | deciding (kind : Byte)
  | answered (result : ρ)
deriving DecidableEq, Repr

/-- Answer codes of the service port (R183), in the order of Table 11-10. -/
inductive ServiceCode where
  | done | started | busy | empty | refusedState | refusedRange
deriving DecidableEq, Repr

/-- Setup outcomes (R179). -/
inductive SetupOutcome where
  | loading | good | faulted
deriving DecidableEq, Repr

/-- Setup fault codes in the order of Table 10-1. -/
inductive FaultCode where
  | imageCheck | periodRange | ringRange | ringOverlap | streamDuplicate | slotsRange | guardThresholds
deriving DecidableEq, Repr

/-- Setup record (R179). -/
structure SetupRecord where
  id : StationId
  outcome : SetupOutcome
  fault : Option FaultCode
  location : Option Channel
  image : List Byte
deriving DecidableEq, Repr

/-- Start modes (R182). -/
inductive StartMode where
  | auto | manual
deriving DecidableEq, Repr

/-- What the image hands out to the Timebase Unit, the Membership Controller, the service port and R182. -/
structure Settings where
  rank : Rank
  eligible : Bool
  house : Bool
  period : Nat
  mask : Byte
  startMode : StartMode
deriving DecidableEq, Repr

/-- Map record (Table 4-2). -/
structure MapRecord where
  epoch : Nat
  ownHeld : Nat
  free : Nat
  resync : Resync
  gathered : Bank 12 Bool
  gatherMarks : Nat
  consecutive : Nat
  boundariesSince : Nat
  outstanding : Nat
  lastTest : Option Bool
  stray : Nat
  mismatch : Bank 16 Nat
  foundOwn : Bool
deriving DecidableEq, Repr

/-- Election field of the timebase record (Table 2-2). -/
inductive ElectionField where
  | idle | backoff | takeoverQueued
deriving DecidableEq, Repr

/-- Empty-trunk listen field of the timebase record (Table 2-2). -/
inductive ListenField where
  | idle | running | cutIn
deriving DecidableEq, Repr

/-- Timebase record (Table 2-2). -/
structure TimebaseRecord where
  lock : LockState
  rack : Nat
  hold : Nat
  period : Nat
  framed : Bool
  round : Nat
  role : Bool
  designated : Option StationId
  designatedRank : Nat
  lastMark : Nat
  missed : Nat
  expected : Option MarkAt
  unsent : Nat
  pageCounter : Nat
  election : ElectionField
  listen : ListenField
  quality : Option RefQuality
deriving DecidableEq, Repr

/-- Trigger record (Table 7-2). -/
structure TriggerRecord where
  settings : TriggerSettings
  filtered : BitVec 4
  blanking : Nat
  nextSeq : Nat
  pendingTrigger : Option Trigger
  overruns : Nat
  lastMade : Option Trigger
  lastSeq : Bank 16 (Option Nat)
deriving DecidableEq, Repr

/-- Snapshot (R185). -/
structure Snapshot where
  round : Nat
  time : Nat
  framed : Bool
  roster : Bank 16 RosterEntry
  slots : Bank 96 SlotEntry
  map : MapRecord
  timebase : TimebaseRecord
  guard : GuardRecord
deriving DecidableEq, Repr

/-- A record the service port returns (Table 10-2). -/
inductive Record where
  | station (r : StationRecord)
  | roster (e : RosterEntry)
  | slot (e : SlotEntry)
  | map (r : MapRecord)
  | timebase (r : TimebaseRecord)
  | guard (r : GuardRecord)
  | outbound (v : OutView)
  | inbound (v : InView)
  | window (w : Window) (acceptance : Acceptance)
  | trigger (r : TriggerRecord)
  | setup (r : SetupRecord)
deriving DecidableEq, Repr

/-- What a service answer carries (11.8). -/
inductive ServicePayload where
  | nothing
  | summary (flags : Byte)
  | live (r : Record)
  | copied (round : Nat) (time : Nat) (framed : Bool) (r : Record)
deriving DecidableEq, Repr

/-- A service answer (Table 11-10). -/
structure ServiceAnswer where
  kind : Byte
  code : ServiceCode
  payload : ServicePayload
deriving DecidableEq, Repr

/-- Snapshot area (R185). -/
structure SnapshotArea where
  pending : Bool
  copy : Option Snapshot
deriving DecidableEq, Repr

/-- Summary flags (Table 10-3). -/
inductive Flag where
  | roster | source | map | guard | state | channel | triggerOverrun | setup
deriving DecidableEq, Repr

/-- Reports the Trunk Interface hands the Link Guard (R154). -/
inductive FaultReport where
  | echo | line | stuck
deriving DecidableEq, Repr

/-- Kinds of withdrawal (R70). -/
inductive Withdrawal where
  | rejoin | leave | admission
deriving DecidableEq, Repr

/-- What a listed slot of a CLAIM comes to (R75). -/
inductive SlotVerdict where
  | granted | taken | cap
deriving DecidableEq, Repr

/-- What a CLAIM comes to (R75, R76). -/
inductive ClaimResult where
  | notMember
  | streamConflict
  | judged (slots : List (Slot × SlotVerdict))
deriving DecidableEq, Repr

/-- What the receiver makes of the bytes it heard (R4, R190). -/
inductive Heard where
  | passed (p : Packet)
  | failedSample (p : Sample)
  | discarded
deriving DecidableEq, Repr

/-- The station, its clock and pins, how many free values have been drawn (log 25), and the queue of waiting commands. -/
structure State where
  powered : Bool
  pins : Pins
  clock : Clock
  trunk : Trunk
  framer : Framer
  tb : Timebase
  station : StationRecord
  progress : Progress
  roster : Bank 16 RosterEntry
  rollCall : Bank 16 RollMark
  map : LaneMap
  out : Bank 8 OutChannel
  inb : Bank 8 InChannel
  mem : Memory
  trig : TriggerUnit
  guard : GuardRecord
  frame : Port FrameResult
  service : Port ServiceAnswer
  setup : SetupRecord
  settings : Option Settings
  snapshots : SnapshotArea
  flags : BitVec 8
  freeDraws : Nat
  pending : List Instr
deriving DecidableEq, Repr

/-- A cleared Roster entry (R46). -/
def RosterEntry.cleared : RosterEntry :=
  { state := .absent, eligible := false, rank := 0, lock := .unlocked, guard := .clear, trouble := false, held := 0,
    miss := 0, joinedRound := none, lastHeard := none, source := false }

/-- A free slot entry with no epoch at grant (R72). -/
def SlotEntry.free : SlotEntry := { holding := none, grantEpoch := none }

/-- The Lane Map after power-on, the reset input and each clearing (R72, R80, Table 4-2). -/
def LaneMap.cleared : LaneMap :=
  { entries := Bank.fill 96 SlotEntry.free, epoch := 0, resync := .none, gathered := Bank.fill 12 false,
    gatherMarks := 0, consecutive := 0, boundariesSince := 12, outstanding := 0, lastTest := none, stray := 0,
    mismatch := Bank.fill 16 0, compared := Bank.fill 16 false, foundOwn := false, awaitCheck := false,
    failed := false, departures := [] }

/-- An outbound definition of all zero (R184). -/
def OutDef.zero : OutDef := { stream := 0, wanted := 0, policy := .dropNew, autoOpen := false }

/-- The running record of Table 5-1 after power-on. -/
def OutRun.initial : OutRun :=
  { state := .closed, slots := [], claims := [], attempts := 0, nextTag := 0, firstPending := false, drain := false,
    closePending := false, closingTo := none, timeStep := false, dropped := false, slotsLost := 0,
    lastOutcome := none, accepted := 0, sent := 0, discarded := 0, refused := 0, packets := 0 }

/-- An outbound channel after power-on (R94). -/
def OutChannel.initial : OutChannel :=
  { OutRun.initial with defn := OutDef.zero, queue := [], releasesOut := 0, emptyAttempt := false }

/-- An inbound definition of all zero (R184). -/
def InDef.zero : InDef :=
  { stream := 0, base := 0, pages := 0, mode := .ring, policy := .keep, acceptance := .localOnly }

/-- The window record of Table 7-1 after power-on, OPEN-IN, CLOSE-IN and DISARM-IN. -/
def Window.initial : Window :=
  { state := .idle, start := none, stop := none, taken := none, attach := false, captured := 0, sinceTrigger := 0 }

/-- No pending flag. -/
def PendingFlags.empty : PendingFlags :=
  { invalidSkipped := false, heldDropped := false, gap := false, recordsLost := false }

/-- Counters of an inbound channel at zero. -/
def InCounters.zero : InCounters :=
  { packets := 0, words := 0, gaps := 0, invalidKept := 0, invalidSkipped := 0, heldDropped := 0, withheld := 0,
    superseded := 0, recordsLost := 0 }

/-- The running record of Table 6-1 after power-on. -/
def InRun.initial : InRun :=
  { state := .closed, holder := none, committed := 0, extent := 0, latest := none, hold := none,
    descs := Bank.fill 2 none, expectedTag := none, lastHolder := none, lastTag := none, endSeen := false,
    pendingFlags := PendingFlags.empty, timeStep := false, heldDrop := 0, counters := InCounters.zero }

/-- An inbound channel after power-on (R117). -/
def InChannel.initial : InChannel :=
  { InRun.initial with defn := InDef.zero, log := [], window := Window.initial }

/-- Trigger settings before any image is handed out, which Table 7-2 gives "as loaded" (R152, R181): no line masked, no
times, no action, the model's choice (log 74). -/
def TriggerSettings.unloaded : TriggerSettings :=
  { mask := 0, filter := 0, blanking := 0, table := Bank.fill 16 .nothing }

/-- The Trigger Unit after power-on (Table 7-2). -/
def TriggerUnit.initial : TriggerUnit :=
  { settings := TriggerSettings.unloaded, filtered := 0, candidates := Bank.fill 4 none, blankUntil := 0,
    nextSeq := 0, pendingTrigger := none, overruns := 0, lastMade := none, lastSeq := Bank.fill 16 none }

/-- No report. -/
def ReportCounts.zero : ReportCounts := { echo := 0, line := 0, stuck := 0 }

/-- No report and no notice. -/
def Reports.empty : Reports :=
  { counts := ReportCounts.zero, joinOrLeave := false, blanked := false, leaveTaken := false, leaveAtBegin := false }

/-- The guard record of Table 8-1 after power-on. The thresholds, which the table gives "as loaded", are 0 until an image
is handed out: the model's choice (log 63). -/
def GuardRecord.initial : GuardRecord :=
  { state := .clear, faults := 0, clean := 0, blanking := 0, interval := .none, reports := Reports.empty,
    leaveDue := false, trouble := false, troubleHold := 0, last := none, faulted := 0, quietEntries := 0,
    trip := none, thresholds := { quiet := 0, isolate := 0, recover := 0, blanking := 0 } }

/-- The pace of a station that has sent nothing (R11). -/
def Pace.fresh : Pace := { sent := false, gaps := 0, heard := false }

/-- The setup record at the start of a load (R179); the station ID before the straps are read is log 6. -/
def SetupRecord.loading : SetupRecord :=
  { id := 0, outcome := .loading, fault := none, location := none, image := List.replicate 256 0 }

/-- The station right after the reset input, with the pins low (log 7) and no command waiting. -/
def State.reset : State :=
  { powered := true
    pins := { eject := false, start := false, lines := 0, trunkRef := false, houseRef := false }
    clock := { ticks := 0, rack := 0, holdUntil := 0 }
    trunk := { switch := .closed, queue := [], waiting := [], pace := Pace.fresh, sending := none, gapStart := 0,
               repeaterOff := false }
    framer := { framed := false, round := 0, period := 0, start := 0, position := .mark, opening := .begun }
    tb := { lock := .unlocked, lockDue := none, period := 0, role := false, designated := none,
            designatedRank := Config.noRank, lastMark := 0, missed := 0, expected := none, timeoutBase := 0,
            orphan := false, unsent := 0, pageCounter := 0, markDue := none, lastSent := 0, otherMark := none,
            election := .idle, listen := .idle, lastQuality := none, lossDue := none }
    station := { state := .setup, blockReason := none, leaveOutcome := none, learnFails := 0, joinFails := 0,
                 leaveTimeouts := 0, viewOmissions := 0 }
    progress := { learnBoundaries := 0, learned := false, joinBoundaries := 0, emptyTrunk := false,
                  leavingDue := none, ownLeaveTaken := false, leaveClosingDue := false, presenceOn := false,
                  ownWordRounds := [], lastView := 0 }
    roster := Bank.fill 16 RosterEntry.cleared
    rollCall := Bank.fill 16 { inCall := false, heard := false }
    map := LaneMap.cleared
    out := Bank.fill 8 OutChannel.initial
    inb := Bank.fill 8 InChannel.initial
    mem := []
    trig := TriggerUnit.initial
    guard := GuardRecord.initial
    frame := .idle
    service := .idle
    setup := SetupRecord.loading
    settings := none
    snapshots := { pending := false, copy := none }
    flags := 0
    freeDraws := 0
    pending := [] }

end Sys2Proof.Machine
end

