-- ==== Sys2Proof/Machine/Flags.lean ====
section
/-! DEFINITION. Summary flags, the attention line and the other output lines of the station. -/
namespace Sys2Proof.Machine

/-- The bit of a summary flag, in the order of the attention mask (Table 11-8). -/
def flagBit : Flag → BitVec 8
  | .roster => 1
  | .source => 2
  | .map => 4
  | .guard => 8
  | .state => 16
  | .channel => 32
  | .triggerOverrun => 64
  | .setup => 128

/-- Raises a summary flag; a flag already set stays set (R187). -/
def raise (f : Flag) (s : State) : State := { s with flags := s.flags ||| flagBit f }

/-- Raises a summary flag when `c` holds. -/
def raiseIf (c : Bool) (f : Flag) (s : State) : State := if c then raise f s else s

/-- Whether the image states that a house reference is present (R22). -/
def houseConfigured (s : State) : Bool :=
  match s.settings with
  | some c => c.house
  | none => false

/-- The attention mask in force: none in SETUP, SETUP alone in SETUP-FAULT, otherwise the image's (R188). -/
def attentionMask (s : State) : BitVec 8 :=
  match s.settings with
  | some c => c.mask
  | none => if s.station.state = .setupFault then flagBit .setup else 0

/-- The attention line is asserted while a selected flag is set (R188). -/
def attention (s : State) : Bool := s.powered && (s.flags &&& attentionMask s != 0)

/-- What the station drives on the trunk's reference pair (R3): cycles or none, by its house-reference input, while it
holds the source role and its image states a house reference; otherwise `none`, and it only listens. -/
def referenceDrive (s : State) : Option Bool :=
  if s.powered && s.tb.role && houseConfigured s then some s.pins.houseRef else none

/-- The safe line is asserted while the station is PARKED or ISOLATED (R66, R176). -/
def safeLine (s : State) : Bool := s.powered && (s.station.state = .parked || s.station.state = .isolated)

/-- The frame port raises its ready indication while it is IDLE (R169). -/
def frameReady (s : State) : Bool := s.powered && (s.frame = .idle)

end Sys2Proof.Machine
end

