-- ==== Sys2Proof/Machine/Ops.lean ====
section
/-! DEFINITION. Operations shared by every block: what the image says of this station, time, Sample Memory, the control
queue, the transmitter, and the positions of a round. -/
namespace Sys2Proof.Machine

/-! ### What the straps and the image say of this station -/

/-- This station's ID (R179). -/
def stationId (s : State) : StationId := s.setup.id

/-- Whether the image makes this station eligible for the source role. -/
def eligible (s : State) : Bool :=
  match s.settings with
  | some c => c.eligible
  | none => false

/-- This station's own rank. -/
def ownRank (s : State) : Rank :=
  match s.settings with
  | some c => c.rank
  | none => 0

/-- The image's own round period, 0 while no image has been handed out. -/
def ownPeriod (s : State) : Nat :=
  match s.settings with
  | some c => c.period
  | none => 0

/-- The period an interval of the guard uses: the adopted one, or the image's own (R155). -/
def periodOrOwn (s : State) : Nat := if s.tb.period = 0 then ownPeriod s else s.tb.period

/-! ### Station states by what they do -/

/-- JOINING, JOINED and LEAVING: the states whose bypass switch may be INLINE (R1). -/
def inRack (s : State) : Bool :=
  s.station.state = .joining || s.station.state = .joined || s.station.state = .leaving

/-- JOINED and LEAVING: the states in which samples are delivered (R118). -/
def delivers (s : State) : Bool := s.station.state = .joined || s.station.state = .leaving

/-- LEARNING, JOINING, JOINED and LEAVING: the states that take control packets into the tables (R49, R50, R74). -/
def takesTables (s : State) : Bool := s.station.state = .learning || inRack s

/-- The station is past SETUP and SETUP-FAULT: the image has been handed out (R138, R174, R180, R181). -/
def setupEnded (s : State) : Bool := s.station.state != .setup && s.station.state != .setupFault

/-- SETUP, SETUP-FAULT and READY, in which no MARK is taken and the Roster takes no report (R30, R51). -/
def beforeListening (s : State) : Bool :=
  s.station.state = .setup || s.station.state = .setupFault || s.station.state = .ready

/-- The guard state lets the station send more than its presence word (R13, R104). -/
def guardLetsSend (s : State) : Bool := s.guard.state = .clear || s.guard.state = .watch

/-- Where R1 requires the bypass switch to be. -/
def wantedSwitch (s : State) : Switch :=
  if inRack s ∧ s.guard.state ≠ .isolated then .inline else .closed

/-- The switch is INLINE and no cut-out has fallen due (R1, R8, R13; log 12). -/
def mayTransmit (s : State) : Bool := s.trunk.switch = .inline && wantedSwitch s = .inline

/-! ### Time -/

/-- The clock after `n` ticks of the local clock: rack time stands still while a hold runs and stops at its top value
(R24, R25). -/
def advanceClock (n : Nat) (c : Clock) : Clock :=
  { c with
    ticks := c.ticks + n
    rack := min Config.rackTimeMax (c.rack + (n - min n (c.holdUntil - c.ticks))) }

/-- Lets `n` ticks of the local clock pass. -/
def elapse (n : Nat) (s : State) : State := { s with clock := advanceClock n s.clock }

/-- Ticks a running hold still lasts (Table 2-2). -/
def holdRemaining (s : State) : Nat := s.clock.holdUntil - s.clock.ticks

/-- Ticks until rack time reaches `t`. -/
def ticksToRack (t : Nat) (s : State) : Nat :=
  if t ≤ s.clock.rack then 0 else holdRemaining s + (min t Config.rackTimeMax - s.clock.rack)

/-- Lets the ticks pass until rack time has reached `t` (log 2). -/
def waitRack (t : Nat) (s : State) : State := elapse (ticksToRack t s) s

/-- Lets the ticks pass until the local count has reached `t` (log 2). -/
def waitTicks (t : Nat) (s : State) : State := elapse (t - s.clock.ticks) s

/-- What a step does when no command waits: one tick of the local clock passes, and a repeater that was cut off is on
again after a quiet tick (R19, R24; log 1). A station without supply has no clock. -/
def tick (s : State) : State := if s.powered then elapse 1 { s with trunk.repeaterOff := false } else s

/-! ### Sample Memory (R116) -/

/-- The byte at an address; an unlisted byte is 0 (R116). -/
def readByte : Memory → Nat → Byte
  | [], _ => 0
  | (k, v) :: rest, a => if k = a then v else readByte rest a

/-- Writes one byte, keeping the canonical form: addresses rising, no listed zero. -/
def writeByte : Memory → Nat → Byte → Memory
  | [], a, b => if b = 0 then [] else [(a, b)]
  | (k, v) :: rest, a, b =>
    if a < k then (if b = 0 then (k, v) :: rest else (a, b) :: (k, v) :: rest)
    else if a = k then (if b = 0 then rest else (a, b) :: rest)
    else (k, v) :: writeByte rest a b

/-- Every listed address lies at or above `low`, addresses rise, and no listed byte is 0. -/
def Memory.wfFrom : Nat → Memory → Bool
  | _, [] => true
  | low, (k, v) :: rest => decide (low ≤ k) && decide (v ≠ 0) && Memory.wfFrom (k + 1) rest

/-- The canonical form of Sample Memory. -/
def Memory.wf (m : Memory) : Bool := Memory.wfFrom 0 m

/-- Byte `i` of a word, most significant first (11.1). -/
def wordByte (w : Word) (i : Nat) : Byte := (w >>> (24 - 8 * i)).truncate 8

/-- The word at word address `a` (page × 256 + offset), its bytes most significant first (log 27). -/
def readWord (m : Memory) (a : Nat) : Word :=
  readByte m (4 * a) ++ readByte m (4 * a + 1) ++ readByte m (4 * a + 2) ++ readByte m (4 * a + 3)

/-- Writes the word at word address `a`; the memory has no word beyond its 64 pages. -/
def writeWord (m : Memory) (a : Nat) (w : Word) : Memory :=
  if a < Config.memoryWords then
    writeByte (writeByte (writeByte (writeByte m (4 * a) (wordByte w 0)) (4 * a + 1) (wordByte w 1))
      (4 * a + 2) (wordByte w 2)) (4 * a + 3) (wordByte w 3)
  else m

/-- Writes words from offset `pos` of an area of `size` words that begins at word address `base`, counted modulo the
size (R123). -/
def writeArea (base size : Nat) : Nat → List Word → Memory → Memory
  | _, [], m => m
  | pos, w :: ws, m => writeArea base size (pos + 1) ws (writeWord m (base + pos % size) w)

/-- `n` words in address order from word address `a`. -/
def readWords (m : Memory) (a n : Nat) : List Word := (List.range n).map fun i => readWord m (a + i)

/-! ### Arbitration -/

/-- Class codes of the start pattern (11.2), which follow the class priorities of Table 1-2. -/
def classCode : ArbClass → Nat
  | .positional => 0
  | .handoff => 1
  | .takeover => 2
  | .trigger => 3
  | .leave => 4
  | .release => 5
  | .claim => 6
  | .join => 7

/-- The key byte; a lower one is better (11.2, R12). -/
def keyCode (k : ArbKey) : Nat := classCode k.cls * 16 + k.station.val

/-- A starter loses only to a better key; with an equal key neither loses (R12). -/
def winsAgainst (own : ArbKey) (rival : Option ArbKey) : Bool :=
  match rival with
  | none => true
  | some k => keyCode own ≤ keyCode k

/-! ### The control queue (R14 to R17) -/

/-- The class of a queue entry. -/
def entryClass : QueueEntry → ArbClass
  | .claim _ _ => .claim
  | .release _ _ => .release
  | .join _ => .join
  | .leave _ => .leave
  | .handoff _ _ => .handoff
  | .takeover _ _ _ => .takeover

/-- RELEASE, CLAIM and JOIN are ordinary, the others reserved (Table 1-2). -/
def isOrdinary (e : QueueEntry) : Bool :=
  match entryClass e with
  | .release => true
  | .claim => true
  | .join => true
  | _ => false

/-- The entry is the packet now on the pair: it has started (R16). -/
def inFlight (s : State) (e : QueueEntry) : Bool :=
  match s.trunk.sending with
  | some x => x.entry = some e
  | none => false

/-- Enters `e` behind the entries of its own and of better classes (R14). -/
def insertEntry (e : QueueEntry) : List QueueEntry → List QueueEntry
  | [] => [e]
  | x :: xs => if classCode (entryClass e) < classCode (entryClass x) then e :: x :: xs else x :: insertEntry e xs

/-- An ordinary packet finds room: fewer than six ordinary entries, and an entry free (R14, log 15). -/
def roomForOrdinary (s : State) : Bool :=
  s.trunk.queue.countP isOrdinary < Config.ordinaryEntries && s.trunk.queue.length < Config.queueEntries

/-- Puts an entry into the control queue. -/
def enqueue (e : QueueEntry) (s : State) : State := { s with trunk.queue := insertEntry e s.trunk.queue }

/-- A block offers an ordinary packet on its own account: admitted, or kept waiting for admission (R14, R15). A packet
newly asked for is admitted at once where there is room, ahead of packets that wait, and those are offered again in the
order of their refusal: the model's choice (log 42). -/
def offerEntry (e : QueueEntry) (s : State) : State :=
  if roomForOrdinary s then enqueue e s else { s with trunk.waiting := s.trunk.waiting ++ [e] }

/-- Offers entries one after another. -/
def offerAll : List QueueEntry → State → State
  | [], s => s
  | e :: es, s => offerAll es (offerEntry e s)

/-- Every packet refused admission is offered again (R15). -/
def reofferWaiting (s : State) : State := offerAll s.trunk.waiting { s with trunk.waiting := [] }

/-- Withdraws every entry that `p` picks and that has not started, and every such packet waiting for admission
(R15, R16). -/
def withdrawEntries (p : QueueEntry → Bool) (s : State) : State :=
  { s with
    trunk.queue := s.trunk.queue.filter fun e => !p e || inFlight s e
    trunk.waiting := s.trunk.waiting.filter fun e => !p e }

/-- The entry's packet is a TAKEOVER. -/
def isTakeover (e : QueueEntry) : Bool := entryClass e = .takeover

/-- The entry is a RELEASE of the Lane Map's reconciliation (R89). -/
def isReconciliation : QueueEntry → Bool
  | .release none _ => true
  | _ => false

/-- The entry is a CLAIM of channel `ch`. -/
def isClaimOf (ch : Channel) : QueueEntry → Bool
  | .claim c _ => c = ch
  | _ => false

/-! ### The transmitter and the pair -/

/-- A packet of this station starts on the pair (R18). -/
def startPacket (p : Packet) (e : Option QueueEntry) (s : State) : State :=
  { s with trunk.sending := some { packet := p, entry := e, startedAt := s.clock.ticks } }

/-- The packet is this station's own, in flight from its transmitter: its taking is the read-back (R18, log 5). -/
def isOwn (p : Packet) (s : State) : Bool :=
  match s.trunk.sending with
  | some x => x.packet = p
  | none => false

/-- The queue entry of the packet in flight. -/
def sendingEntry (s : State) : Option QueueEntry :=
  match s.trunk.sending with
  | some x => x.entry
  | none => none

/-- The packet in flight from the own transmitter is a MARK. -/
def markInFlight (s : State) : Bool :=
  match s.trunk.sending with
  | some ⟨.mark _, _, _⟩ => true
  | _ => false

/-- The own packet on the pair has ended. -/
def endSending (s : State) : State :=
  { s with trunk.sending := none, trunk.gapStart := s.clock.ticks }

/-- The own packet passed read-back: it ends, and its entry leaves the queue (R17). -/
def passReadBack (s : State) : State :=
  match sendingEntry s with
  | some e => endSending { s with trunk.queue := s.trunk.queue.erase e }
  | none => endSending s

/-- A packet of another station has ended: the next quiet gap is measured from here (R10), and it may be the whole
packet of another station that R11 waits for. A repeater that was cut off is on again, the pair having been quiet
before this packet (R19, log 28). -/
def packetEnded (whole : Bool) (s : State) : State :=
  { s with
    trunk.gapStart := s.clock.ticks
    trunk.pace.heard := s.trunk.pace.heard || whole
    trunk.repeaterOff := false }

/-! ### Slots and positions of a round (R7, Table 1-1) -/

/-- The number of a slot, lane × 4 + phase (11.8). -/
def slotIndex (l : Slot) : Fin 96 := ⟨l.lane.val * 4 + l.phase.val, by omega⟩

/-- The slot with a given number. -/
def slotAt (i : Fin 96) : Slot := ⟨⟨i.val / 4, by omega⟩, ⟨i.val % 4, by omega⟩⟩

/-- All slots in lane-major, phase-minor order (R81). -/
def allSlots : List Slot := (List.finRange 96).map slotAt

/-- The phase of a round: its number modulo 4 (R6). -/
def phaseOf (round : Nat) : Phase := ⟨round % 4, by omega⟩

/-- The order of the positions within a round. -/
def positionOrder : Position → Nat
  | .mark => 0
  | .rollCallBegin => 1
  | .rollCall k => 2 + k.val
  | .lane l => 18 + l.val
  | .window k => 42 + k.val

/-- The offset of a position from the round's start (Table 1-1). -/
def positionOffset : Position → Nat
  | .mark => 0
  | .rollCallBegin => Config.rollCallOffset
  | .rollCall k => Config.rollCallOffset + Config.rollCallTicks * k.val
  | .lane l => Config.laneOffset + Config.laneTicks * l.val
  | .window k => Config.windowOffset + Config.opportunityTicks * k.val

/-- The position that the tick at offset `o` of a round lies in (Table 1-1); none in the silent tail. -/
def positionAt (o : Nat) : Option Position :=
  if o < Config.rollCallOffset then some .mark
  else if o < Config.laneOffset then
    some (.rollCall (Fin.ofNat 16 ((o - Config.rollCallOffset) / Config.rollCallTicks)))
  else if o < Config.windowOffset then some (.lane (Fin.ofNat 24 ((o - Config.laneOffset) / Config.laneTicks)))
  else if o < Config.windowOffset + 4 * Config.opportunityTicks then
    some (.window (Fin.ofNat 4 ((o - Config.windowOffset) / Config.opportunityTicks)))
  else none

/-- The section that the tick at offset `o` of a round lies in (Table 1-1). -/
def sectionAt (o : Nat) : Section :=
  if o < Config.rollCallOffset then .mark
  else if o < Config.laneOffset then .rollCall
  else if o < Config.windowOffset then .lanes
  else .openWindow

/-- The position the Round Framer holds (R6): none while UNFRAMED, and none in the silent tail. Rack time gives it, so the
positions at which no row acts are seen as well (log 43). -/
def currentPosition (s : State) : Option Position :=
  if s.framer.framed then positionAt (s.clock.rack - s.framer.start) else none

/-- The section the Round Framer holds (R6): none while UNFRAMED. -/
def currentSection (s : State) : Option Section :=
  if s.framer.framed then some (sectionAt (s.clock.rack - s.framer.start)) else none

/-- The Round Framer can still declare the start of position `p` in the round now begun: each position begins once a
round, in order, and none while the trunk is UNFRAMED (R6). -/
def positionComes (p : Position) (s : State) : Bool :=
  s.framer.framed && s.framer.opening != .closed && positionOrder s.framer.position < positionOrder p

/-- The Round Framer declares the start of position `p`, at its offset on rack time (R6, R7). -/
def declarePosition (p : Position) (s : State) : State :=
  { waitRack (s.framer.start + positionOffset p) s with framer.position := p }

end Sys2Proof.Machine
end

