-- ==== Sys2Proof/Machine/Operands.lean ====
section
/-! DEFINITION. The ranges of what commands carry: packet fields (1.8, R4), service indices (Table 10-2), frame-port
requests and service requests as their bytes give them (Tables 11-9 and 11-11). -/
namespace Sys2Proof.Machine

/-! ### Packet fields (R4, 1.8) -/

/-- A rack time fits 48 bits. -/
def timeInRange (t : Nat) : Bool := t ≤ Config.rackTimeMax

/-- A round number or map epoch. -/
def numberInRange (n : Nat) : Bool := n < Config.roundNumbers

/-- A round period. -/
def periodInRange (p : Nat) : Bool := Config.periodMin ≤ p && p ≤ Config.periodMax

/-- No slot is listed twice. -/
def noRepeat : List Slot → Bool
  | [] => true
  | l :: ls => !ls.contains l && noRepeat ls

/-- A slot list of 1 to `most` slots, none repeated. -/
def slotsInRange (most : Nat) (ls : List Slot) : Bool := 1 ≤ ls.length && ls.length ≤ most && noRepeat ls

/-- Every field of the packet lies in the range 1.8 gives it (R4). -/
def packetInRange : Packet → Bool
  | .mark m => numberInRange m.round && timeInRange m.time && periodInRange m.period && numberInRange m.epoch
  | .presence p => p.held ≤ Config.stationSlots
  | .sample p =>
    p.tag < Config.sampleTags && timeInRange p.time && 1 ≤ p.words.length && p.words.length ≤ Config.sampleWords
  | .claim c => slotsInRange 4 c.slots
  | .release r => slotsInRange 8 r.slots
  | .join _ => true
  | .leave _ => true
  | .handoff h => numberInRange h.lastRound
  | .takeover t =>
    timeInRange t.time && periodInRange t.period && numberInRange t.epoch && numberInRange t.nextRound
  | .trigger t => t.sequence < Config.triggerSequences && timeInRange t.time

/-- The sender a packet names. -/
def packetSender : Packet → StationId
  | .mark m => m.source
  | .presence p => p.station
  | .sample p => p.holder
  | .claim c => c.station
  | .release r => r.station
  | .join j => j.station
  | .leave l => l.station
  | .handoff h => h.source
  | .takeover t => t.station
  | .trigger t => t.station

/-- The class of a packet (Table 1-3). -/
def packetClass : Packet → ArbClass
  | .mark _ => .positional
  | .presence _ => .positional
  | .sample _ => .positional
  | .claim _ => .claim
  | .release _ => .release
  | .join _ => .join
  | .leave _ => .leave
  | .handoff _ => .handoff
  | .takeover _ => .takeover
  | .trigger _ => .trigger

/-- The arbitration key of a packet (R12). -/
def packetKey (p : Packet) : ArbKey := { cls := packetClass p, station := packetSender p }

/-! ### Window operands (R146) -/

/-- A window count n of ARM-IN. -/
def countInRange (n : Nat) : Bool := 1 ≤ n && n ≤ Config.windowCountMax

/-- The start and stop of an ARM-IN lie in range (R146). -/
def armInRange (start : WindowStart) (stop : WindowStop) : Bool :=
  match stop with
  | .never => true
  | .count n => countInRange n
  | .trigger n => countInRange n
  | .atTime t =>
    match start with
    | .atTime u => u < t
    | .immediate => true

/-! ### Reading memory (R116) -/

/-- A READ-MEMORY stays inside Sample Memory (R116). -/
def memoryInRange (page offset : Byte) (count : BitVec 16) : Bool :=
  page.toNat < 64 && 1 ≤ count.toNat && count.toNat ≤ 256
    && page.toNat * Config.pageWords + offset.toNat + count.toNat ≤ Config.memoryWords

/-! ### Service indices (R184) -/

/-- How many indices a record class has; none where it takes no index (Table 10-2). -/
def indexCount : RecordClass → Option Nat
  | .roster => some 16
  | .slot => some 96
  | .outbound => some 8
  | .inbound => some 8
  | .window => some 8
  | _ => none

/-- The index lies in its class's range; a class without an index does not read it (R184, Table 11-9). -/
def indexInRange (c : RecordClass) (i : Byte) : Bool :=
  match indexCount c with
  | some n => i.toNat < n
  | none => true

/-- The snapshot keeps records of the class (Table 10-2). -/
def snapshotKeeps : RecordClass → Bool
  | .roster => true
  | .slot => true
  | .map => true
  | .timebase => true
  | .guard => true
  | _ => false

/-! ### Requests as bytes (Tables 11-9, 11-11) -/

/-- Byte `i` of a frame; 0 beyond its end, the model's choice (log 94). -/
def byteAt (f : List Byte) (i : Nat) : Byte := f.getD i 0

/-- The number that `n` bytes from byte `i` spell, most significant first (11.1). -/
def numberAt (f : List Byte) (i : Nat) : Nat → Nat
  | 0 => 0
  | n + 1 => numberAt f i n * 256 + (byteAt f (i + n)).toNat

/-- A channel number, if the byte names one. -/
def channelOf? (b : Byte) : Option Channel := if h : b.toNat < 8 then some ⟨b.toNat, h⟩ else none

/-- The start an ARM-IN request carries (Table 11-11). -/
def startAt (f : List Byte) : Option WindowStart :=
  match (byteAt f 2).toNat with
  | 0 => some .immediate
  | 1 => some (.atTime (numberAt f 3 6))
  | _ => none

/-- The stop an ARM-IN request carries (Table 11-11). -/
def stopAt (f : List Byte) : Option WindowStop :=
  match (byteAt f 9).toNat with
  | 0 => some .never
  | 1 => some (.count (numberAt f 13 3))
  | 2 => some (.atTime (numberAt f 10 6))
  | 3 => some (.trigger (numberAt f 13 3))
  | _ => none

/-- The direction a READ-CHANNEL request carries (Table 11-11). -/
def directionAt (f : List Byte) : Option Direction :=
  match (byteAt f 2).toNat with
  | 0 => some .outbound
  | 1 => some .inbound
  | _ => none

/-- The command for a channel request, if its channel byte names a channel (R170). -/
def onChannel (f : List Byte) (c : Channel → Instr) : Option Instr := (channelOf? (byteAt f 1)).map c

/-- The decoding of a frame-port request of 16 bytes; none where R170 refuses it. -/
def decodeFrameRequest (f : List Byte) : Option Instr :=
  match (byteAt f 0).toNat with
  | 1 => onChannel f fun ch => .push ch (BitVec.ofNat 32 (numberAt f 2 4))
  | 2 => onChannel f .openOut
  | 3 => onChannel f .closeNow
  | 4 => onChannel f .closeDrain
  | 5 => onChannel f .openIn
  | 6 => onChannel f .closeIn
  | 7 => onChannel f .holdIn
  | 8 => onChannel f .resumeIn
  | 9 =>
    match channelOf? (byteAt f 1), startAt f, stopAt f with
    | some ch, some start, some stop => some (.armIn ch start stop)
    | _, _, _ => none
  | 10 => onChannel f .disarmIn
  | 11 => onChannel f .readDelivery
  | 12 => some (.readMemory (byteAt f 1) (byteAt f 2) (BitVec.ofNat 16 (numberAt f 3 2)))
  | 13 => onChannel f .takePair
  | 14 => onChannel f .returnPair
  | 15 =>
    match directionAt f with
    | some d => onChannel f (.readChannel d)
    | none => none
  | _ => none

/-- The record class a service request names (Table 11-9). -/
def recordClassOf (b : Byte) : Option RecordClass :=
  match b.toNat with
  | 1 => some .station
  | 2 => some .roster
  | 3 => some .slot
  | 4 => some .map
  | 5 => some .timebase
  | 6 => some .guard
  | 7 => some .outbound
  | 8 => some .inbound
  | 9 => some .window
  | 10 => some .trigger
  | 11 => some .setup
  | _ => none

/-- The READ that a request frame spells (Table 11-9). -/
def decodeRead (cls index source : Byte) : Option Instr :=
  match recordClassOf cls, source.toNat with
  | some c, 0 => some (.serviceReadLive c index)
  | some c, 1 => some (.serviceReadSnapshot c index)
  | _, _ => none

/-- The decoding of a service request frame; none where it is cut short, or its kind, class or source is none the port
knows (R183). -/
def decodeServiceRequest (f : List Byte) : Option Instr :=
  if f.length < 4 then none
  else
    match (byteAt f 0).toNat with
    | 1 => decodeRead (byteAt f 1) (byteAt f 2) (byteAt f 3)
    | 2 => some .snapshot
    | 3 => some .readSummary
    | 4 => some .rejoin
    | 5 => some .leave
    | 6 => some .clearIsolation
    | _ => none

end Sys2Proof.Machine
end

