-- ==== Sys2Proof/Machine/Formats.lean ====
section
/-! DEFINITION. The forms of chapter 11: the CRC-16, packets as bytes and what a receiver makes of them, the setup image,
the delivery record, frame-port results and service responses. -/
namespace Sys2Proof.Machine

/-! ### Bytes and the CRC-16 (11.1, 11.2) -/

/-- The byte of a number below 256. -/
def byteOf (n : Nat) : Byte := BitVec.ofNat 8 n

/-- `k` bytes of a number, most significant first (11.1). -/
def beBytes : Nat → Nat → List Byte
  | 0, _ => []
  | k + 1, n => beBytes k (n / 256) ++ [byteOf n]

/-- A flag as one byte. -/
def flagByte (b : Bool) : Byte := if b then 1 else 0

/-- One bit of the CRC-16 with the generator x^16 + x^12 + x^5 + 1. -/
def crcBit (c : BitVec 16) : BitVec 16 := if c.msb then (c <<< 1) ^^^ 0x1021 else c <<< 1

/-- One byte of the CRC-16, most significant bit first. -/
def crcByte (c : BitVec 16) (b : Byte) : BitVec 16 :=
  crcBit (crcBit (crcBit (crcBit (crcBit (crcBit (crcBit (crcBit (c ^^^ (b.setWidth 16 <<< 8)))))))))

/-- The CRC-16 over bytes, from 65535 (11.2). -/
def crc16 (bs : List Byte) : BitVec 16 := bs.foldl crcByte 0xFFFF

/-! ### Packet bodies (Tables 11-3 to 11-6) -/

/-- The slot byte (11.1). -/
def slotByte (l : Slot) : Byte := byteOf (l.lane.val * 4 + l.phase.val)

/-- The slot a byte names, if its lane is one (11.1, R190). -/
def slotOf? (b : Byte) : Option Slot :=
  if h : b.toNat / 4 < 24 then some ⟨⟨b.toNat / 4, h⟩, ⟨b.toNat % 4, by omega⟩⟩ else none

/-- The two bytes of a MARK's slot record (Table 11-3). -/
def recordBytes (r : Option Holding) : List Byte :=
  match r with
  | none => [0, 0]
  | some h => [byteOf (128 + h.holder.val), byteOf h.stream.val]

/-- A body with the pad byte that makes its length even (11.2). -/
def padEven (bs : List Byte) : List Byte := if bs.length % 2 = 0 then bs else bs ++ [0]

/-- The number of a lock state (Table 11-4). -/
def lockCode : LockState → Nat
  | .unlocked => 0
  | .acquiring => 1
  | .locked => 2
  | .holdover => 3

/-- The number of a presence word's guard state (Table 11-4). -/
def guardCode : WordGuard → Nat
  | .clear => 0
  | .watch => 1
  | .quiet => 2

/-- The value a flag adds to a byte at a bit of weight `w`. -/
def bitOf (b : Bool) (w : Nat) : Nat := if b then w else 0

/-- The flags of a SAMPLE (Table 11-5). -/
def sampleFlagByte (f : SampleFlags) : Byte :=
  byteOf (bitOf f.first 1 + bitOf f.last 2 + bitOf f.freeTime 4 + bitOf f.timeStep 8 + bitOf f.dropped 16)

/-- The body of a packet, from its kind to its last field, padded to an even length (Tables 11-3 to 11-6). -/
def packetBody : Packet → List Byte
  | .mark m =>
    [1, byteOf m.source.val] ++ beBytes 2 m.round ++ beBytes 6 m.time ++ beBytes 2 m.period ++ beBytes 2 m.epoch
      ++ beBytes 2 m.view.toNat ++ [byteOf (bitOf (m.quality = .house) 128 + m.pageIndex.val), 0]
      ++ (m.page.list.map recordBytes).flatten
  | .presence p =>
    [2, byteOf (bitOf (p.state = .leaving) 128 + p.station.val),
     byteOf (lockCode p.lock * 64 + guardCode p.guard * 16 + bitOf p.eligible 8 + p.rank.val),
     byteOf (bitOf p.trouble 128 + p.held)]
  | .sample p =>
    [3, byteOf p.holder.val, byteOf p.stream.val, byteOf p.lane.val] ++ beBytes 2 p.tag
      ++ [byteOf p.words.length, sampleFlagByte p.flags] ++ beBytes 6 p.time
      ++ (p.words.map fun w => beBytes 4 w.toNat).flatten
  | .claim c =>
    padEven ([4, byteOf c.station.val, byteOf c.stream.val, byteOf c.slots.length] ++ c.slots.map slotByte)
  | .release r =>
    padEven ([6, byteOf r.station.val, byteOf r.stream.val, byteOf r.slots.length] ++ r.slots.map slotByte)
  | .join j => [7, byteOf (bitOf j.eligible 128 + j.rank.val * 16 + j.station.val)]
  | .leave l => [8, byteOf l.station.val]
  | .handoff h =>
    [9, byteOf h.source.val] ++ beBytes 2 h.lastRound
      ++ [match h.successor with | some j => byteOf (128 + j.val) | none => 0, 0]
  | .takeover t =>
    [10, byteOf (t.rank.val * 16 + t.station.val)] ++ beBytes 6 t.time ++ beBytes 2 t.period ++ beBytes 2 t.epoch
      ++ beBytes 2 t.nextRound
  | .trigger t =>
    [11, byteOf (t.entry.val * 16 + t.station.val), byteOf t.sequence] ++ beBytes 6 t.time ++ [0]

/-- The key byte of the start pattern (Table 11-1). -/
def keyByte (p : Packet) : Byte := byteOf (keyCode (packetKey p))

/-- A packet as it lies on the data pair: start pattern, body, CRC-16 (11.2). -/
def packetBytes (p : Packet) : List Byte :=
  [170, 85, keyByte p, 255 - keyByte p] ++ packetBody p ++ beBytes 2 (crc16 (packetBody p)).toNat

/-- A packet's length in ticks: two bytes each (11.5). -/
def packetTicks (p : Packet) : Nat := (packetBytes p).length / 2

/-! ### Reading a body -/

/-- Bits 3 to 0 of a byte as a station ID. -/
def lowId (b : Byte) : StationId := ⟨b.toNat % 16, by omega⟩

/-- Bits 6 to 4 of a byte as a rank. -/
def midRank (b : Byte) : Rank := ⟨b.toNat / 16 % 8, by omega⟩

/-- A byte as a stream number. -/
def streamOf (b : Byte) : Stream := ⟨b.toNat, by omega⟩

/-- Bit of weight `w` of a byte. -/
def hasBit (b : Byte) (w : Nat) : Bool := b.toNat / w % 2 = 1

/-- The slots of `n` slot bytes from byte `i`; none if one of them names no slot. -/
def slotsAt (f : List Byte) (i : Nat) : Nat → Option (List Slot)
  | 0 => some []
  | n + 1 =>
    match slotOf? (byteAt f i), slotsAt f (i + 1) n with
    | some l, some ls => some (l :: ls)
    | _, _ => none

/-- `n` words of four bytes from byte `i`. -/
def wordsAt (f : List Byte) (i : Nat) : Nat → List Word
  | 0 => []
  | n + 1 => BitVec.ofNat 32 (numberAt f i 4) :: wordsAt f (i + 4) n

/-- The slot record of two bytes of a MARK. -/
def holdingAt (f : List Byte) (i : Nat) : Option Holding :=
  if hasBit (byteAt f i) 128 then some ⟨lowId (byteAt f i), streamOf (byteAt f (i + 1))⟩ else none

/-- The fields of a MARK body. -/
def readMark (f : List Byte) : Option Packet :=
  if h : (byteAt f 16).toNat % 16 < 12 then
    some (.mark {
      source := lowId (byteAt f 1), round := numberAt f 2 2, time := numberAt f 4 6, period := numberAt f 10 2
      epoch := numberAt f 12 2, view := BitVec.ofNat 16 (numberAt f 14 2)
      quality := if hasBit (byteAt f 16) 128 then .house else .own
      pageIndex := ⟨(byteAt f 16).toNat % 16, h⟩
      page := Bank.ofFn fun i => holdingAt f (18 + 2 * i.val) })
  else none

/-- The lock state of a presence word's byte 2. -/
def lockOf (b : Byte) : LockState :=
  match b.toNat / 64 with
  | 0 => .unlocked
  | 1 => .acquiring
  | 2 => .locked
  | _ => .holdover

/-- The guard state of a presence word's byte 2; 3 is out of range (Table 11-4). -/
def wordGuardOf? (b : Byte) : Option WordGuard :=
  match b.toNat / 16 % 4 with
  | 0 => some .clear
  | 1 => some .watch
  | 2 => some .quiet
  | _ => none

/-- The fields of a presence word. -/
def readPresence (f : List Byte) : Option Packet :=
  (wordGuardOf? (byteAt f 2)).map fun g => .presence {
    station := lowId (byteAt f 1), state := if hasBit (byteAt f 1) 128 then .leaving else .joined
    lock := lockOf (byteAt f 2), guard := g, eligible := hasBit (byteAt f 2) 8
    rank := ⟨(byteAt f 2).toNat % 8, by omega⟩, trouble := hasBit (byteAt f 3) 128
    held := (byteAt f 3).toNat % 32 }

/-- The fields of a SAMPLE body. -/
def readSample (f : List Byte) : Option Packet :=
  if h : (byteAt f 3).toNat < 24 then
    let b := byteAt f 7
    some (.sample {
      holder := lowId (byteAt f 1), stream := streamOf (byteAt f 2), lane := ⟨(byteAt f 3).toNat, h⟩
      tag := numberAt f 4 2, time := numberAt f 8 6
      flags := { first := hasBit b 1, last := hasBit b 2, freeTime := hasBit b 4, timeStep := hasBit b 8,
                 dropped := hasBit b 16 }
      words := wordsAt f 14 (byteAt f 6).toNat })
  else none

/-- The fields of a HANDOFF body. -/
def readHandoff (f : List Byte) : Packet :=
  .handoff { source := lowId (byteAt f 1), lastRound := numberAt f 2 2
             successor := if hasBit (byteAt f 4) 128 then some (lowId (byteAt f 4)) else none }

/-- The fields of a TAKEOVER body. -/
def readTakeover (f : List Byte) : Packet :=
  .takeover { station := lowId (byteAt f 1), rank := midRank (byteAt f 1), time := numberAt f 2 6
              period := numberAt f 8 2, epoch := numberAt f 10 2, nextRound := numberAt f 12 2 }

/-- The fields of a TRIGGER body. -/
def readTrigger (f : List Byte) : Packet :=
  .trigger { station := lowId (byteAt f 1), entry := ⟨(byteAt f 1).toNat / 16, by omega⟩
             sequence := (byteAt f 2).toNat, time := numberAt f 3 6 }

/-- The fields of a body, by its kind; none where the kind or an enumerated field names nothing (R4). -/
def readBody (f : List Byte) : Option Packet :=
  match (byteAt f 0).toNat with
  | 1 => readMark f
  | 2 => readPresence f
  | 3 => readSample f
  | 4 => (slotsAt f 4 (byteAt f 3).toNat).map fun ls =>
      .claim { station := lowId (byteAt f 1), stream := streamOf (byteAt f 2), slots := ls }
  | 6 => (slotsAt f 4 (byteAt f 3).toNat).map fun ls =>
      .release { station := lowId (byteAt f 1), stream := streamOf (byteAt f 2), slots := ls }
  | 7 => some (.join { station := lowId (byteAt f 1), eligible := hasBit (byteAt f 1) 128,
                       rank := midRank (byteAt f 1) })
  | 8 => some (.leave { station := lowId (byteAt f 1) })
  | 9 => some (readHandoff f)
  | 10 => some (readTakeover f)
  | 11 => some (readTrigger f)
  | _ => none

/-- The body of the bytes of a packet. -/
def bodyOf (bs : List Byte) : List Byte := (bs.drop 4).take (bs.length - 6)

/-- A packet whose every case of R190 passes: its fields in range, its zero bits, pad and length as its own form has
them (the body reads back as it was), its start pattern and key its own. -/
def formHolds (bs : List Byte) (p : Packet) : Bool :=
  packetInRange p && packetBody p == bodyOf bs && byteAt bs 1 == 85 && byteAt bs 2 == keyByte p
    && byteAt bs 3 == 255 - keyByte p

/-- The CRC-16 that the bytes of a packet end with is that of their body. -/
def crcHolds (bs : List Byte) : Bool := (crc16 (bodyOf bs)).toNat = numberAt bs (bs.length - 2) 2

/-- What a receiver makes of the bytes of a packet (R4, R190). -/
def classify (bs : List Byte) : Heard :=
  match readBody (bodyOf bs) with
  | none => .discarded
  | some p =>
    if formHolds bs p then
      if crcHolds bs then .passed p
      else
        match p with
        | .sample x => .failedSample x
        | _ => .discarded
    else .discarded

/-! ### The setup image (11.7, R180) -/

/-- The image of the bytes the memory supplied: the first 256, the rest zero (R179). -/
def imageOf (supplied : List Byte) : List Byte := (List.range 256).map fun i => byteAt supplied i

/-- The CRC-16 of the image matches (Table 11-8). -/
def imageCrcHolds (f : List Byte) : Bool := (crc16 (f.take 254)).toNat = numberAt f 254 2

/-- Bits of a byte: `n` bits from bit `i`. -/
def bitsAt (b : Byte) (i n : Nat) : Nat := b.toNat / 2 ^ i % 2 ^ n

/-- The action an encoding names (Table 11-8). -/
def actionOf? : Nat → Option Action
  | 0 => some .nothing
  | 1 => some .localTrigger
  | 2 => some .rackTrigger
  | _ => none

/-- The code of condition entry `a` (Table 11-8). -/
def actionCode (f : List Byte) (a : Fin 16) : Nat := bitsAt (byteAt f (13 - a.val / 4)) (2 * (a.val % 4)) 2

/-- An encoding of two values names one of them. -/
def twoValued (n : Nat) : Bool := n < 2

/-- Byte `j` of outbound definition `ch` (Table 11-8). -/
def outByte (f : List Byte) (ch : Channel) (j : Nat) : Byte := byteAt f (16 + 4 * ch.val + j)

/-- Byte `j` of inbound definition `ch` (Table 11-8). -/
def inByte (f : List Byte) (ch : Channel) (j : Nat) : Byte := byteAt f (48 + 4 * ch.val + j)

/-- Outbound definition `ch` of the image. -/
def outDefOf (f : List Byte) (ch : Channel) : OutDef :=
  { stream := streamOf (outByte f ch 0)
    wanted := (outByte f ch 1).toNat
    policy := if bitsAt (outByte f ch 2) 0 2 = 0 then .dropNew else .dropOld
    autoOpen := bitsAt (outByte f ch 2) 2 1 = 1 }

/-- The acceptance of inbound definition `ch`. -/
def acceptanceOf (f : List Byte) (ch : Channel) : Acceptance :=
  match bitsAt (inByte f ch 3) 0 2 with
  | 0 => .localOnly
  | 1 => .any
  | _ => .fromStation ⟨(inByte f ch 3).toNat / 16, by omega⟩

/-- Inbound definition `ch` of the image. -/
def inDefOf (f : List Byte) (ch : Channel) : InDef :=
  { stream := streamOf (inByte f ch 0)
    base := ⟨(inByte f ch 1).toNat % 64, by omega⟩
    pages := 2 ^ bitsAt (inByte f ch 2) 0 2
    mode := if bitsAt (inByte f ch 2) 2 2 = 0 then .ring else .pair
    policy := if bitsAt (inByte f ch 2) 4 2 = 0 then .keep else .skip
    acceptance := acceptanceOf f ch }

/-- Every enumerated field of the image names one of its values (R180). -/
def encodingsHold (f : List Byte) : Bool :=
  ((List.finRange 16).all fun a => actionCode f a < 3) && twoValued (bitsAt (byteAt f 15) 0 2)
    && ((List.finRange 8).all fun ch => twoValued (bitsAt (outByte f ch 2) 0 2))
    && ((List.finRange 8).all fun ch => twoValued (bitsAt (inByte f ch 2) 2 2) && twoValued (bitsAt (inByte f ch 2) 4 2)
        && bitsAt (inByte f ch 3) 0 2 < 3)

/-- Own round period of the image. -/
def imagePeriod (f : List Byte) : Nat := numberAt f 1 2

/-- The guard thresholds of the image. -/
def imageThresholds (f : List Byte) : Thresholds :=
  { quiet := (byteAt f 3).toNat, recover := (byteAt f 4).toNat, isolate := (byteAt f 5).toNat
    blanking := bitsAt (byteAt f 6) 0 4 }

/-- First word and size in words of an inbound definition's area (R180). -/
def areaOf (d : InDef) : Nat × Nat :=
  (d.base.val * Config.pageWords, match d.mode with | .ring => d.pages * Config.pageWords | .pair => 32)

/-- Two areas share a word. -/
def areasMeet (a b : InDef) : Bool :=
  (areaOf a).1 < (areaOf b).1 + (areaOf b).2 && (areaOf b).1 < (areaOf a).1 + (areaOf a).2

/-- A RING definition runs past page 63 (RING-RANGE). -/
def ringTooLong (d : InDef) : Bool := d.mode = .ring && 64 < d.base.val + d.pages

/-- The lowest-numbered definition that fails a test. -/
def firstChannel (p : Channel → Bool) : Option Channel := (List.finRange 8).find? p

/-- A definition of lower number stands in the relation to this one. -/
def anyBelow (p : Channel → Channel → Bool) (ch : Channel) : Bool :=
  (List.finRange 8).any fun k => k.val < ch.val && p k ch

/-- The guard thresholds fail (GUARD-THRESHOLDS). -/
def thresholdsFail (t : Thresholds) : Bool :=
  t.quiet = 0 || t.recover = 0 || t.isolate = 0 || 15 < t.quiet || 15 < t.recover || 63 < t.isolate
    || t.isolate ≤ t.quiet

/-- The first fault of a location-bearing code, if a definition fails it. -/
def atLocation (c : FaultCode) (p : Channel → Bool) : Option (FaultCode × Option Channel) :=
  (firstChannel p).map fun ch => (c, some ch)

/-- A fault of a code without a location. -/
def whole (c : FaultCode) (fails : Bool) : Option (FaultCode × Option Channel) := if fails then some (c, none) else none

/-- The seven checks in the order of Table 10-1, over the bytes the memory supplied: the first that fails, with its
location (R180). -/
def setupCheck (supplied : List Byte) : Option (FaultCode × Option Channel) :=
  let f := imageOf supplied
  (whole .imageCheck (supplied.length < 256 || !imageCrcHolds f || !encodingsHold f))
    <|> (whole .periodRange (!periodInRange (imagePeriod f)))
    <|> (atLocation .ringRange fun ch => ringTooLong (inDefOf f ch))
    <|> (atLocation .ringOverlap (anyBelow fun k ch => areasMeet (inDefOf f k) (inDefOf f ch)))
    <|> (atLocation .streamDuplicate (anyBelow fun k ch => (outDefOf f k).stream = (outDefOf f ch).stream))
    <|> (atLocation .slotsRange fun ch => (outDefOf f ch).wanted = 0 || 8 < (outDefOf f ch).wanted)
    <|> (whole .guardThresholds (thresholdsFail (imageThresholds f)))

/-- The settings an image hands out beside the definitions (R180). -/
def settingsOf (f : List Byte) : Settings :=
  { rank := ⟨(byteAt f 0).toNat % 8, by omega⟩, eligible := bitsAt (byteAt f 0) 3 1 = 1
    house := bitsAt (byteAt f 0) 4 1 = 1, period := imagePeriod f, mask := byteAt f 14
    startMode := if bitsAt (byteAt f 15) 0 2 = 0 then .auto else .manual }

/-- The trigger settings of an image (7.1). -/
def triggerSettingsOf (f : List Byte) : TriggerSettings :=
  { mask := BitVec.ofNat 4 (byteAt f 7).toNat, filter := (byteAt f 7).toNat / 16, blanking := numberAt f 8 2
    table := Bank.ofFn fun a => (actionOf? (actionCode f a)).getD .nothing }

/-! ### The delivery record (Table 11-7) -/

/-- The flags of a delivery record as a number. -/
def deliveryFlags (f : RecordFlags) : Nat :=
  bitOf f.gap 1 + bitOf f.invalid 2 + bitOf f.invalidSkipped 4 + bitOf f.heldDropped 8 + bitOf f.newHolder 16
    + bitOf f.last 32 + bitOf f.ended 64 + bitOf f.timeStep 128 + bitOf f.freeTime 256 + bitOf f.dropped 512
    + bitOf f.trigger 1024 + bitOf f.recordsLost 2048 + bitOf f.superseded 4096

/-- The 16 bytes of a delivery record (Table 11-7). -/
def deliveryBytes (d : Delivery) : List Byte :=
  beBytes 2 d.tag ++ beBytes 6 d.time ++ [byteOf d.count, byteOf (bitOf d.offset.isSome 128 + d.holder.val)]
    ++ beBytes 2 (d.offset.getD 0) ++ beBytes 2 (deliveryFlags d.flags) ++ [0, 0]

/-! ### Records as bytes (11.8; log 30) -/

/-- An optional field (11.8). -/
def optBytes {α : Type} (f : α → List Byte) (o : Option α) : List Byte :=
  match o with
  | none => [0]
  | some a => 1 :: f a

/-- A list with its length before it (11.8). -/
def listBytes {α : Type} (f : α → List Byte) (l : List α) : List Byte := byteOf l.length :: (l.map f).flatten

/-- One byte of a number. -/
def one (n : Nat) : List Byte := [byteOf n]

/-- A set of members numbered from 0, in two bytes. -/
def setBytes (members : List Bool) : List Byte :=
  beBytes 2 (members.foldr (fun b n => bitOf b 1 + 2 * n) 0)

/-- The number of a station state, in the order of R45. -/
def stationCode : StationState → Nat
  | .setup => 0
  | .setupFault => 1
  | .ready => 2
  | .listening => 3
  | .learning => 4
  | .joining => 5
  | .joined => 6
  | .leaving => 7
  | .parked => 8
  | .isolated => 9
  | .blocked => 10

/-- The number of a block reason, in the order of R45. -/
def reasonCode : BlockReason → Nat
  | .idConflict => 0
  | .learnFail => 1
  | .joinFail => 2

/-- The station record's bytes (R45). -/
def stationBytes (r : StationRecord) : List Byte :=
  one (stationCode r.state) ++ optBytes (fun x => one (reasonCode x)) r.blockReason
    ++ optBytes (fun x => [flagByte (x = .listening)]) r.leaveOutcome ++ one r.learnFails ++ one r.joinFails
    ++ one r.leaveTimeouts ++ one r.viewOmissions

/-- A Roster entry's bytes (R46). -/
def rosterBytes (e : RosterEntry) : List Byte :=
  one (match e.state with | .absent => 0 | .joining => 1 | .present => 2) ++ [flagByte e.eligible]
    ++ one e.rank.val ++ one (lockCode e.lock) ++ one (guardCode e.guard) ++ [flagByte e.trouble] ++ one e.held
    ++ one e.miss ++ optBytes (beBytes 2) e.joinedRound ++ optBytes (beBytes 2) e.lastHeard ++ [flagByte e.source]

/-- A slot entry's bytes (R72). -/
def slotEntryBytes (e : SlotEntry) : List Byte :=
  optBytes (fun h => one h.holder.val) e.holding ++ optBytes (fun h => one h.stream.val) e.holding
    ++ optBytes (beBytes 2) e.grantEpoch

/-- The map record's bytes (Table 4-2). -/
def mapBytes (r : MapRecord) : List Byte :=
  beBytes 2 r.epoch ++ one r.ownHeld ++ one r.free
    ++ one (match r.resync with | .none => 0 | .gathering => 1 | .reconciling => 2)
    ++ setBytes r.gathered.list ++ one r.gatherMarks ++ one r.consecutive ++ one r.boundariesSince
    ++ one r.outstanding ++ optBytes (fun equal => [flagByte (!equal)]) r.lastTest ++ one r.stray
    ++ (r.mismatch.list.map one).flatten ++ [flagByte r.foundOwn]

/-- The timebase record's bytes (Table 2-2). -/
def timebaseBytes (r : TimebaseRecord) : List Byte :=
  one (lockCode r.lock) ++ beBytes 6 r.rack ++ beBytes 6 r.hold ++ beBytes 2 r.period ++ [flagByte (!r.framed)]
    ++ beBytes 2 r.round ++ [flagByte r.role] ++ optBytes (fun j => one j.val) r.designated ++ one r.designatedRank
    ++ beBytes 6 r.lastMark ++ one r.missed ++ optBytes (fun e => beBytes 6 e.time ++ beBytes 2 e.round) r.expected
    ++ one r.unsent ++ one r.pageCounter
    ++ one (match r.election with | .idle => 0 | .backoff => 1 | .takeoverQueued => 2)
    ++ one (match r.listen with | .idle => 0 | .running => 1 | .cutIn => 2)
    ++ optBytes (fun q => [flagByte (q = .own)]) r.quality

/-- Report counts. -/
def countBytes (c : ReportCounts) : List Byte := one c.echo ++ one c.line ++ one c.stuck

/-- The number of an interval kind. -/
def kindByte (k : IntervalKind) : Byte := flagByte (k = .unframed)

/-- The guard record's bytes, with the trip record (Tables 8-1 and 8-3). -/
def guardBytes (g : GuardRecord) : List Byte :=
  one (match g.state with | .clear => 0 | .watch => 1 | .quiet => 2 | .isolated => 3) ++ one g.faults ++ one g.clean
    ++ one g.blanking ++ one (match g.interval with | .framed => 0 | .unframed _ => 1 | .none => 2)
    ++ countBytes g.reports.counts ++ [flagByte g.reports.joinOrLeave, flagByte g.reports.blanked]
    ++ [flagByte g.leaveDue, flagByte g.trouble] ++ one g.troubleHold
    ++ optBytes (fun j => kindByte j.kind :: beBytes 2 j.round
        ++ one (match j.result with | .faulted => 0 | .clean => 1 | .blanked => 2) ++ countBytes j.counts) g.last
    ++ beBytes 2 g.faulted ++ one g.quietEntries
    ++ optBytes (fun t => beBytes 2 t.round ++ [kindByte t.kind] ++ beBytes 6 t.time
        ++ one (match t.state with | .joining => 0 | .joined => 1 | _ => 2) ++ countBytes t.counts ++ one t.faults
        ++ one t.quietAt ++ one t.isolateAt) g.trip
    ++ one g.thresholds.quiet ++ one g.thresholds.isolate ++ one g.thresholds.recover ++ one g.thresholds.blanking

/-- The number of an outbound channel state (Table 5-1). -/
def outStateCode : OutState → Nat
  | .closed => 0
  | .opening => 1
  | .opened => 2
  | .openShort => 3
  | .paused => 4
  | .closing => 5
  | .failed => 6
  | .conflict => 7
  | .lost => 8

/-- A last claim outcome's bytes. -/
def outcomeBytes : LastOutcome → List Byte
  | .counts g t c => 0 :: one g ++ one t ++ one c
  | .streamConflict => [1]
  | .notMember => [2]

/-- A list of slots. -/
def slotListBytes (ls : List Slot) : List Byte := listBytes (fun l => [slotByte l]) ls

/-- An outbound channel's bytes (R94, Table 5-1, R115). -/
def outBytes (v : OutView) : List Byte :=
  one v.defn.stream.val ++ one v.defn.wanted ++ [flagByte (v.defn.policy = .dropOld), flagByte v.defn.autoOpen]
    ++ one (outStateCode v.run.state) ++ beBytes 2 v.depth ++ optBytes (beBytes 6) v.headTime
    ++ slotListBytes v.run.slots ++ listBytes slotListBytes v.run.claims ++ one v.run.attempts
    ++ beBytes 2 v.run.nextTag
    ++ [flagByte v.run.firstPending, flagByte v.run.drain, flagByte v.run.closePending]
    ++ optBytes (fun x => [flagByte (x = .lost)]) v.run.closingTo
    ++ [flagByte v.run.timeStep, flagByte v.run.dropped] ++ one v.run.slotsLost
    ++ optBytes outcomeBytes v.run.lastOutcome ++ beBytes 6 v.run.accepted ++ beBytes 6 v.run.sent
    ++ beBytes 6 v.run.discarded ++ beBytes 6 v.run.refused ++ beBytes 6 v.run.packets

/-- A trigger acceptance's bytes. -/
def acceptanceBytes : Acceptance → List Byte
  | .localOnly => [0]
  | .any => [1]
  | .fromStation s => 2 :: one s.val

/-- A trigger's bytes. -/
def triggerBytes (t : Trigger) : List Byte :=
  one t.station.val ++ one t.sequence ++ beBytes 6 t.time ++ one t.entry.val

/-- A window record's bytes (Table 7-1). -/
def windowBytes (w : Window) (a : Acceptance) : List Byte :=
  one (match w.state with | .idle => 0 | .armed => 1 | .capturing => 2 | .done => 3)
    ++ optBytes (fun x => match x with | .immediate => [0] | .atTime t => 1 :: beBytes 6 t) w.start
    ++ optBytes (fun x => match x with
        | .never => [0]
        | .count n => 1 :: beBytes 3 n
        | .atTime t => 2 :: beBytes 6 t
        | .trigger n => 3 :: beBytes 3 n) w.stop
    ++ acceptanceBytes a ++ optBytes triggerBytes w.taken ++ [flagByte w.attach] ++ beBytes 4 w.captured
    ++ beBytes 4 w.sinceTrigger

/-- A half descriptor's bytes, as TAKE-PAIR and READ carry them (11.9). -/
def descBytes (d : HalfDesc) : List Byte := beBytes 2 d.tag ++ beBytes 6 d.time ++ one d.count ++ one d.holder.val

/-- The counters of an inbound channel. -/
def counterBytes (c : InCounters) : List Byte :=
  beBytes 4 c.packets ++ beBytes 4 c.words ++ beBytes 4 c.gaps ++ beBytes 4 c.invalidKept
    ++ beBytes 4 c.invalidSkipped ++ beBytes 4 c.heldDropped ++ beBytes 4 c.withheld ++ beBytes 4 c.superseded
    ++ beBytes 4 c.recordsLost

/-- The pending flags as one byte, a bit for each in the order of Table 6-1 from bit 0: 11.8 gives no form for a set of
flags, and this one is the model's choice (log 64). -/
def pendingByte (p : PendingFlags) : Byte :=
  byteOf (bitOf p.invalidSkipped 1 + bitOf p.heldDropped 2 + bitOf p.gap 4 + bitOf p.recordsLost 8)

/-- Latest half or reader hold, whose values Table 6-1 lists as none, 0, 1: an enumerated field of one byte (11.8). That it
is no optional field is the model's reading (log 64). -/
def halfByte : Option (Fin 2) → Byte
  | none => 0
  | some h => byteOf (h.val + 1)

/-- An inbound channel's bytes (R117, Table 6-1, R136). The forms of the halves and of the pending flags are log 64. -/
def inBytes (v : InView) : List Byte :=
  one v.defn.stream.val ++ one v.defn.base.val ++ one v.defn.pages
    ++ [flagByte (v.defn.mode = .pair), flagByte (v.defn.policy = .skip)] ++ acceptanceBytes v.defn.acceptance
    ++ one (match v.run.state with | .closed => 0 | .waiting => 1 | .receiving => 2 | .held => 3)
    ++ optBytes (fun j => one j.val) v.run.holder ++ beBytes 2 v.run.committed ++ one v.run.extent
    ++ [halfByte v.run.latest, halfByte v.run.hold]
    ++ (v.run.descs.list.map (optBytes descBytes)).flatten ++ optBytes (beBytes 2) v.run.expectedTag
    ++ optBytes (fun j => one j.val) v.run.lastHolder ++ optBytes (beBytes 2) v.run.lastTag
    ++ [flagByte v.run.endSeen, pendingByte v.run.pendingFlags, flagByte v.run.timeStep] ++ beBytes 2 v.run.heldDrop
    ++ one v.logCount ++ optBytes (beBytes 2) v.oldestTag ++ counterBytes v.run.counters
    ++ windowBytes v.window v.defn.acceptance

/-- The trigger record's bytes (Table 7-2). -/
def triggerRecordBytes (r : TriggerRecord) : List Byte :=
  one r.settings.mask.toNat ++ one r.settings.filter ++ beBytes 2 r.settings.blanking
    ++ (r.settings.table.list.map fun a =>
        byteOf (match a with | .nothing => 0 | .localTrigger => 1 | .rackTrigger => 2))
    ++ ((List.range 4).map fun i => flagByte (r.filtered.getLsbD i)) ++ beBytes 2 r.blanking ++ one r.nextSeq
    ++ optBytes triggerBytes r.pendingTrigger ++ beBytes 2 r.overruns ++ optBytes triggerBytes r.lastMade
    ++ (r.lastSeq.list.map (optBytes one)).flatten

/-- The number of a setup fault code (Table 10-1). -/
def faultNumber : FaultCode → Nat
  | .imageCheck => 0
  | .periodRange => 1
  | .ringRange => 2
  | .ringOverlap => 3
  | .streamDuplicate => 4
  | .slotsRange => 5
  | .guardThresholds => 6

/-- The setup record's bytes (R179). -/
def setupBytes (r : SetupRecord) : List Byte :=
  one r.id.val ++ one (match r.outcome with | .loading => 0 | .good => 1 | .faulted => 2)
    ++ optBytes (fun c => one (faultNumber c)) r.fault ++ optBytes (fun ch => one ch.val) r.location ++ r.image

/-- A record's bytes (11.8). -/
def payloadBytes : Record → List Byte
  | .station r => stationBytes r
  | .roster e => rosterBytes e
  | .slot e => slotEntryBytes e
  | .map r => mapBytes r
  | .timebase r => timebaseBytes r
  | .guard r => guardBytes r
  | .outbound v => outBytes v
  | .inbound v => inBytes v
  | .window w a => windowBytes w a
  | .trigger r => triggerRecordBytes r
  | .setup r => setupBytes r

/-! ### Results and answers (Tables 11-12 and 11-10) -/

/-- The number of a frame-port result code (Table 11-12). -/
def frameCode : FrameCode → Nat
  | .done => 0
  | .started => 1
  | .full => 2
  | .busy => 3
  | .empty => 4
  | .refusedState => 5
  | .refusedRange => 6

/-- The payload of a frame-port result (11.9). -/
def framePayloadBytes : FramePayload → List Byte
  | .nothing => []
  | .delivery d => deliveryBytes d
  | .words ws => (ws.map fun w => beBytes 4 w.toNat).flatten
  | .half h d => [byteOf h.val, byteOf (16 * h.val)] ++ descBytes d
  | .outbound v => outBytes v
  | .inbound v => inBytes v

/-- A frame-port result as bytes (Table 11-12). -/
def frameResultBytes (r : FrameResult) : List Byte :=
  let payload := framePayloadBytes r.payload
  [r.kind, r.channel, r.offset, byteOf (frameCode r.code)] ++ beBytes 2 payload.length ++ payload

/-- The number of a service answer code (Table 11-10). -/
def serviceCode : ServiceCode → Nat
  | .done => 0
  | .started => 1
  | .busy => 2
  | .empty => 3
  | .refusedState => 4
  | .refusedRange => 5

/-- The payload of a service answer (11.8). -/
def servicePayloadBytes : ServicePayload → List Byte
  | .nothing => []
  | .summary flags => [flags]
  | .live r => payloadBytes r
  | .copied round time framed r => beBytes 2 round ++ beBytes 6 time ++ [flagByte (!framed)] ++ payloadBytes r

/-- A service answer as bytes (Table 11-10). -/
def serviceAnswerBytes (a : ServiceAnswer) : List Byte :=
  let payload := servicePayloadBytes a.payload
  [a.kind, byteOf (serviceCode a.code)] ++ beBytes 2 payload.length ++ payload

end Sys2Proof.Machine
end

