-- ==== Sys2Proof/Machine/LaneMap.lean ====
section
/-! DEFINITION. The Lane Map's table: what it answers, how a CLAIM is judged, how slots are freed and pages applied. The
functions here are of the map alone; what other blocks do about a change stands in MapEvents. -/
namespace Sys2Proof.Machine

/-- The entry of a slot. -/
def slotEntry (m : LaneMap) (l : Slot) : SlotEntry := m.entries.get (slotIndex l)

/-- The entry names `h` as holder. -/
def heldBy (h : StationId) (e : SlotEntry) : Bool :=
  match e.holding with
  | some x => x.holder = h
  | none => false

/-- The entry carries stream `n`. -/
def carries (n : Stream) (e : SlotEntry) : Bool :=
  match e.holding with
  | some x => x.stream = n
  | none => false

/-- The entry is held by `h` for stream `n`. -/
def heldFor (h : StationId) (n : Stream) (e : SlotEntry) : Bool := e.holding = some ⟨h, n⟩

/-- The entry is free (R72). -/
def isFree (e : SlotEntry) : Bool := e.holding = none

/-- A station's held count (R72). -/
def heldCount (es : Bank 96 SlotEntry) (h : StationId) : Nat := es.count (heldBy h)

/-- A stream's held count (R72). -/
def streamCount (es : Bank 96 SlotEntry) (n : Stream) : Nat := es.count (carries n)

/-- The holder of a stream, from the first entry that carries it. -/
def streamHolder (es : Bank 96 SlotEntry) (n : Stream) : Option StationId :=
  match es.list.find? (carries n) with
  | some e => e.holding.map (·.holder)
  | none => none

/-- Free slots in lane-major, phase-minor order (R81). -/
def freeSlots (m : LaneMap) : List Slot := allSlots.filter fun l => isFree (slotEntry m l)

/-- The slots this station's map shows as `h`'s own, in lane-major, phase-minor order (R81, R89). -/
def slotsOf (m : LaneMap) (h : StationId) : List Slot := allSlots.filter fun l => heldBy h (slotEntry m l)

/-- No stream is held by two stations (R72). A slot has one holder by the form of an entry. -/
def oneHolderPerStream (es : Bank 96 SlotEntry) : Bool :=
  es.list.all fun a => es.list.all fun b =>
    match a.holding, b.holding with
    | some x, some y => x.stream != y.stream || x.holder == y.holder
    | _, _ => true

/-! ### CLAIM (R75) -/

/-- Some entry holds stream `n` for a holder other than `c` (R75 step 2). -/
def streamConflict (es : Bank 96 SlotEntry) (c : StationId) (n : Stream) : Bool :=
  es.list.any fun e => carries n e && !heldBy c e

/-- What one listed slot comes to, the grants before it being made already (R75 step 3). -/
def judgeSlot (es : Bank 96 SlotEntry) (c : StationId) (n : Stream) (l : Slot) : SlotVerdict :=
  if isFree (es.get (slotIndex l)) then
    if heldCount es c + 1 > Config.stationSlots ∨ streamCount es n + 1 > Config.streamSlots then .cap else .granted
  else .taken

/-- Judges the listed slots in order, entering each grant with its epoch (R75 step 3). -/
def judgeSlots (c : StationId) (n : Stream) (epoch : Nat) :
    List Slot → Bank 96 SlotEntry → List (Slot × SlotVerdict) × Bank 96 SlotEntry
  | [], es => ([], es)
  | l :: ls, es =>
    match judgeSlot es c n l with
    | .granted =>
      let r := judgeSlots c n epoch ls (es.set (slotIndex l) { holding := some ⟨c, n⟩, grantEpoch := some epoch })
      ((l, .granted) :: r.1, r.2)
    | .taken => let r := judgeSlots c n epoch ls es; ((l, .taken) :: r.1, r.2)
    | .cap => let r := judgeSlots c n epoch ls es; ((l, .cap) :: r.1, r.2)

/-- The slots a CLAIM was granted, in order. -/
def grantedSlots (v : List (Slot × SlotVerdict)) : List Slot := (v.filter fun x => x.2 = .granted).map (·.1)

/-- Evaluates a CLAIM against the table as it stands (R75): the result, and the map after it with the epoch risen by one
if a slot was granted (R73). -/
def evaluateClaim (member : Bool) (c : Claim) (m : LaneMap) : ClaimResult × LaneMap :=
  if !member then (.notMember, m)
  else if streamConflict m.entries c.station c.stream then (.streamConflict, m)
  else
    let next := succWrap Config.roundNumbers m.epoch
    let r := judgeSlots c.station c.stream next c.slots m.entries
    (.judged r.1, if (grantedSlots r.1).isEmpty then m else { m with entries := r.2, epoch := next })

/-! ### Freeing (R77 to R79) -/

/-- Frees every held entry that `p` picks. -/
def freeEntries (p : Slot → Holding → Bool) (es : Bank 96 SlotEntry) : Bank 96 SlotEntry :=
  es.mapIdx fun i e =>
    match e.holding with
    | some h => if p (slotAt i) h then SlotEntry.free else e
    | none => e

/-- The slots of held entries that `p` picks, in order. -/
def pickedSlots (p : Slot → Holding → Bool) (es : Bank 96 SlotEntry) : List Slot :=
  allSlots.filter fun l =>
    match (es.get (slotIndex l)).holding with
    | some h => p l h
    | none => false

/-- The streams that lose their last slot when `p` picks what is freed, in the order of their first slot freed. -/
def lostStreams (p : Slot → Holding → Bool) (es : Bank 96 SlotEntry) : List Stream :=
  ((pickedSlots p es).filterMap fun l => (es.get (slotIndex l)).holding.map (·.stream)).eraseDups.filter fun n =>
    streamCount (freeEntries p es) n = 0

/-- The map after a freeing, its epoch risen by one if a slot was freed (R73). -/
def freeMap (p : Slot → Holding → Bool) (m : LaneMap) : LaneMap :=
  if (pickedSlots p m.entries).isEmpty then m
  else { m with entries := freeEntries p m.entries, epoch := succWrap Config.roundNumbers m.epoch }

/-- Every slot of station `h` (R78, R79). -/
def ofStation (h : StationId) : Slot → Holding → Bool := fun _ x => x.holder = h

/-- The slots a RELEASE frees (R77). -/
def ofRelease (r : Release) : Slot → Holding → Bool :=
  fun l x => x.holder = r.station && x.stream = r.stream && r.slots.contains l

/-! ### Map pages (R82, R87) -/

/-- The slot of record `i` of page `k`: lane 2k first, phases in order (R82). -/
def pageSlot (k : Fin 12) (i : Fin 8) : Fin 96 := ⟨k.val * 8 + i.val, by omega⟩

/-- The page of the map with index `k`, as holders and streams (R82). -/
def servePage (m : LaneMap) (k : Fin 12) : Bank 8 (Option Holding) :=
  Bank.ofFn fun i => (m.entries.get (pageSlot k i)).holding

/-- Replaces one entry by a page's record; an entry that named the same holding keeps its epoch at grant, and a holding
frees every other entry that holds its stream for another station (R87). -/
def applyRecord (i : Fin 96) (r : Option Holding) (es : Bank 96 SlotEntry) : Bank 96 SlotEntry :=
  let old := es.get i
  let kept : SlotEntry := if old.holding = r then old else { holding := r, grantEpoch := none }
  match r with
  | none => es.set i kept
  | some h =>
    (es.map fun e => if carries h.stream e && !heldBy h.holder e then SlotEntry.free else e).set i kept

/-- Applies the eight records of a page (R87). They are applied in order, so of two that name different holders for one
stream the last stands: the model's choice (log 90). -/
def applyRecords (k : Fin 12) (page : Bank 8 (Option Holding)) (es : Bank 96 SlotEntry) : Bank 96 SlotEntry :=
  (List.finRange 8).foldl (fun es i => applyRecord (pageSlot k i) (page.get i) es) es

/-- A page as a learn attempt enters it: a record that names this station is entered as free (R91). -/
def withoutStation (own : StationId) (page : Bank 8 (Option Holding)) : Bank 8 (Option Holding) :=
  page.map fun r =>
    match r with
    | some h => if h.holder = own then none else some h
    | none => none

/-- A page names this station as a holder (R91). -/
def pageNames (own : StationId) (page : Bank 8 (Option Holding)) : Bool :=
  page.list.any fun r =>
    match r with
    | some h => h.holder = own
    | none => false

/-- All 12 page indices have been gathered (R88). -/
def allGathered (m : LaneMap) : Bool := m.gathered.list.all id

/-- One more page gathered: applied, its index in the set, the gathering MARK counted (R87, R88). -/
def gatherPage (k : Fin 12) (page : Bank 8 (Option Holding)) (m : LaneMap) : LaneMap :=
  { m with
    entries := applyRecords k page m.entries
    gathered := m.gathered.set k true
    gatherMarks := capAdd Config.gatherLimit m.gatherMarks 1 }

/-- The table as it begins a gathering: nothing gathered, no MARK counted (R86, R91). -/
def startGathering (m : LaneMap) : LaneMap :=
  { m with gathered := Bank.fill 12 false, gatherMarks := 0 }

/-! ### Isolation (R80) -/

/-- Frees this station's own entries without an epoch change (R80). -/
def dropOwnSlots (own : StationId) (m : LaneMap) : LaneMap :=
  { m with entries := freeEntries (ofStation own) m.entries }

end Sys2Proof.Machine
end

