-- ==== Sys2Proof/Machine/Inbound.lean ====
section
/-! DEFINITION. The Inbound Engine: windows, storing, records, and what streams and station moves do to a channel. -/
namespace Sys2Proof.Machine

/-- Replaces inbound channel `ch`. -/
def setIn (ch : Channel) (c : InChannel) (s : State) : State := { s with inb := s.inb.set ch c }

/-- Does `f` for channels 0 to 7 in turn. -/
def eachChannel (f : Channel → State → State) (s : State) : State := (List.finRange 8).foldl (fun s ch => f ch s) s

/-! ### Capture windows (R147 to R150) -/

/-- The acceptance passes a trigger (R147). -/
def accepts (a : Acceptance) (localOrigin : Bool) (t : Trigger) : Bool :=
  match a with
  | .localOnly => localOrigin
  | .any => true
  | .fromStation n => t.station = n

/-- A window with stop TRIGGER. -/
def stopsOnTrigger (w : Window) : Bool :=
  match w.stop with
  | some (.trigger _) => true
  | _ => false

/-- The window of the channel takes the trigger (R147). -/
def takesTrigger (localOrigin : Bool) (t : Trigger) (c : InChannel) : Bool :=
  (c.state = .waiting || c.state = .receiving) && (c.window.state = .armed || c.window.state = .capturing)
    && stopsOnTrigger c.window && c.window.taken = none && accepts c.defn.acceptance localOrigin t

/-- Hands a trigger to a channel's window (R147). -/
def windowTrigger (localOrigin : Bool) (t : Trigger) (c : InChannel) : InChannel :=
  if takesTrigger localOrigin t c then
    { c with window := { c.window with taken := some t, attach := true, sinceTrigger := 0 } }
  else c

/-- Hands a trigger to the windows of all 8 channels (R141, R144). -/
def handTrigger (localOrigin : Bool) (t : Trigger) (s : State) : State :=
  { s with inb := s.inb.map (windowTrigger localOrigin t) }

/-- The AT-TIME stop lies at or before `f`. -/
def stopReached (w : Window) (f : Nat) : Bool :=
  match w.stop with
  | some (.atTime t) => t ≤ f
  | _ => false

/-- The AT-TIME start lies after `f`. -/
def beforeStart (w : Window) (f : Nat) : Bool :=
  match w.start with
  | some (.atTime t) => f < t
  | _ => false

/-- Whether the window stores a packet of first-word time `f`, and the window's state by that decision (R148). -/
def windowDecision (w : Window) (f : Nat) : Bool × WindowState :=
  match w.state with
  | .idle => (true, .idle)
  | .done => (false, .done)
  | .armed =>
    if stopReached w f then (false, .done) else if beforeStart w f then (false, .armed) else (true, .capturing)
  | .capturing =>
    if stopReached w f then (false, .done) else if beforeStart w f then (false, .capturing) else (true, .capturing)

/-- The window is told of `k` delivered words (R149, R150). -/
def windowCounts (k : Nat) (w : Window) : Window :=
  if w.state = .capturing then
    let captured := capAdd Config.counter32Max w.captured k
    let since := if w.taken.isSome && stopsOnTrigger w then capAdd Config.counter32Max w.sinceTrigger k
      else w.sinceTrigger
    let ends : Bool := match w.stop with
      | some (.count n) => n ≤ captured
      | some (.trigger n) => w.taken.isSome && n ≤ since
      | _ => false
    { w with captured := captured, sinceTrigger := since, state := if ends then .done else .capturing }
  else w

/-! ### Delivery records (R130 to R132, R135) -/

/-- No flag of a delivery record. -/
def noRecordFlags : RecordFlags :=
  { gap := false, invalid := false, invalidSkipped := false, heldDropped := false, newHolder := false, last := false,
    ended := false, timeStep := false, freeTime := false, dropped := false, trigger := false, recordsLost := false,
    superseded := false }

/-- Adds what pends on the channel to a record's flags: the pending set, the time-step note, the window's TRIGGER
(R132). -/
def withPending (c : InChannel) (f : RecordFlags) : RecordFlags :=
  { f with
    gap := f.gap || c.pendingFlags.gap
    invalidSkipped := f.invalidSkipped || c.pendingFlags.invalidSkipped
    heldDropped := f.heldDropped || c.pendingFlags.heldDropped
    recordsLost := f.recordsLost || c.pendingFlags.recordsLost
    timeStep := f.timeStep || c.timeStep
    trigger := f.trigger || c.window.attach }

/-- The log has room (R132). -/
def logHasRoom (c : InChannel) : Bool := c.log.length < Config.logRecords

/-- Appends a record: the pending set, the note and the window's TRIGGER are consumed, and a record with GAP raises the
gaps counter (R130, R132). -/
def appendRecord (d : Delivery) (c : InChannel) : InChannel :=
  let flags := withPending c d.flags
  { c with
    log := c.log ++ [{ d with flags := flags }]
    pendingFlags := PendingFlags.empty
    timeStep := false
    window := { c.window with attach := false }
    counters := { c.counters with
      gaps := if flags.gap then capAdd Config.counter32Max c.counters.gaps 1 else c.counters.gaps } }

/-- Refuses a record, the log being full (R132). -/
def refuseRecord (c : InChannel) : InChannel :=
  { c with
    pendingFlags := { c.pendingFlags with recordsLost := true }
    counters := { c.counters with recordsLost := capAdd Config.counter32Max c.counters.recordsLost 1 } }

/-- The flags of a packet's own record: as carried, from the storing, and from the check against the record before it
(R130, R132). -/
def packetFlags (p : Sample) (invalid superseded : Bool) (c : InChannel) : RecordFlags :=
  let checked := c.lastHolder.isSome && !p.flags.first
  let newHolder := checked && c.lastHolder != some p.holder
  { noRecordFlags with
    gap := checked && !newHolder && c.expectedTag != some p.tag
    newHolder := newHolder
    invalid := invalid
    superseded := superseded
    last := p.flags.last
    freeTime := p.flags.freeTime
    timeStep := p.flags.timeStep
    dropped := p.flags.dropped }

/-- Adds the record of a delivered packet, and says whether CHANNEL is raised (R130, R132, R134). -/
def recordPacket (p : Sample) (offset : Nat) (invalid superseded : Bool) (c : InChannel) : InChannel × Bool :=
  if logHasRoom c then
    ({ appendRecord { tag := p.tag, time := p.time, count := p.words.length, offset := some offset, holder := p.holder,
                      flags := packetFlags p invalid superseded c } c with
        expectedTag := some (succWrap Config.sampleTags p.tag)
        lastHolder := some p.holder
        lastTag := some p.tag
        endSeen := p.flags.last || (c.endSeen && !p.flags.first) }, false)
  else (refuseRecord c, !c.pendingFlags.recordsLost)

/-- The holder an ENDED record names: the last holder, else the stream holder (R135); where the channel has neither, a free
value (log 25). -/
def endedHolder (unknown : StationId) (c : InChannel) : StationId := c.lastHolder.getD (c.holder.getD unknown)

/-- The stream of a RECEIVING or HELD channel has lost its last slot: a zero-word record with ENDED unless END was seen
(R135). Says whether CHANNEL is raised (R136). -/
def endStream (now : Nat) (deliver : Bool) (unknown : StationId) (c : InChannel) : InChannel × Bool :=
  if c.endSeen || !deliver then (c, false)
  else if logHasRoom c then
    ({ appendRecord { tag := c.lastTag.getD 0, time := now, count := 0, offset := none,
                      holder := endedHolder unknown c, flags := { noRecordFlags with ended := true } } c with
        endSeen := true }, true)
  else (refuseRecord c, !c.pendingFlags.recordsLost)

/-- The holder an ENDED record of the channel would name is a free value (log 25). -/
def drawsHolder (c : InChannel) : Bool := c.lastHolder.isNone && c.holder.isNone

/-- R135 for channel `ch`, which is in state `st` after it with no stream holder; a free holder is drawn where the channel
knows none. -/
def streamEnds (st : InState) (ch : Channel) (s : State) : State :=
  let c := s.inb.get ch
  let r := endStream s.clock.rack (delivers s) (Config.unknownHolder s.freeDraws) c
  let s := raiseIf r.2 .channel (setIn ch { r.1 with state := st, holder := none } s)
  if drawsHolder c then { s with freeDraws := s.freeDraws + 1 } else s

/-! ### Storing (R123 to R125) -/

/-- Size of a channel's ring in words (R117). -/
def ringSize (c : InChannel) : Nat := c.defn.pages * Config.pageWords

/-- Word address of the first word of a channel's area (R117). -/
def areaBase (c : InChannel) : Nat := c.defn.base.val * Config.pageWords

/-- The lower-numbered half that is neither latest nor held (R125). -/
def freeHalf (c : InChannel) : Option (Fin 2) :=
  (List.finRange 2).find? fun h => c.latest != some h && c.hold != some h

/-- What storing a packet did: the channel, the memory, the offset of the delivery if the packet was delivered, and
whether it superseded another. -/
structure Stored where
  chan : InChannel
  mem : Memory
  offset : Option Nat
  superseded : Bool
deriving DecidableEq, Repr

/-- Counts of a packet stored and delivered (R123, R124), in PAIR mode as well as in RING mode, though R125 names only
superseded and invalid skipped: the model's choice (log 61). -/
def countStored (k : Nat) (invalid superseded : Bool) (n : InCounters) : InCounters :=
  { n with
    packets := capAdd Config.counter32Max n.packets 1
    words := capAdd Config.counter32Max n.words k
    invalidKept := if invalid then capAdd Config.counter32Max n.invalidKept 1 else n.invalidKept
    superseded := if superseded then capAdd Config.counter32Max n.superseded 1 else n.superseded }

/-- A failed packet was skipped (R124, R125). -/
def markSkipped (c : InChannel) : InChannel :=
  { c with
    pendingFlags := { c.pendingFlags with invalidSkipped := true }
    counters := { c.counters with invalidSkipped := capAdd Config.counter32Max c.counters.invalidSkipped 1 } }

/-- Stores a packet in a ring (R123, R124). -/
def storeRing (p : Sample) (failed : Bool) (c : InChannel) (m : Memory) : Stored :=
  let written := writeArea (areaBase c) (ringSize c) c.committed p.words m
  if failed && c.defn.policy = .skip then
    { chan := { markSkipped c with extent := p.words.length }, mem := written, offset := none, superseded := false }
  else
    { chan := { c with
        committed := (c.committed + p.words.length) % ringSize c
        extent := 0
        counters := countStored p.words.length failed false c.counters }
      mem := written, offset := some c.committed, superseded := false }

/-- Word address of half `h` of a pair area (R125). -/
def halfBase (h : Fin 2) (c : InChannel) : Nat := areaBase c + 16 * h.val

/-- Stores a packet in a pair area (R125); a delivered one is counted as in a ring, the model's choice (log 61). -/
def storePair (p : Sample) (failed : Bool) (c : InChannel) (m : Memory) : Stored :=
  if failed && c.defn.policy = .skip then
    match freeHalf c with
    | some h =>
      { chan := { markSkipped c with descs := c.descs.set h none }
        mem := writeArea (halfBase h c) 16 0 p.words m, offset := none, superseded := false }
    | none => { chan := markSkipped c, mem := m, offset := none, superseded := false }
  else
    let superseded := (freeHalf c).isNone
    let h := (freeHalf c).getD (c.latest.getD 0)
    { chan := { c with
        latest := some h
        descs := c.descs.set h
          (some { tag := p.tag, time := p.time, count := p.words.length, holder := p.holder })
        counters := countStored p.words.length failed superseded c.counters }
      mem := writeArea (halfBase h c) 16 0 p.words m, offset := some (16 * h.val), superseded := superseded }

/-- Stores a packet by the channel's mode. -/
def storePacket (p : Sample) (failed : Bool) (c : InChannel) (m : Memory) : Stored :=
  match c.defn.mode with
  | .ring => storeRing p failed c m
  | .pair => storePair p failed c m

/-- The taking of a matching packet by one channel, after the hold test (R122 steps 2 to 5): the channel, the memory, and
whether CHANNEL is raised. A packet skipped as invalid moves no window (R148, log 26). A failed packet under KEEP-INVALID
opens and closes windows like a good one, and under SKIP-INVALID one that the window withholds moves it no more than one
that is stored: the model's choice (log 62). -/
def takePacket (p : Sample) (failed : Bool) (c : InChannel) (m : Memory) : InChannel × Memory × Bool :=
  let skip := failed && c.defn.policy = .skip
  let decision := windowDecision c.window p.time
  let c := if skip then c else { c with window := { c.window with state := decision.2 } }
  if !decision.1 then
    ({ c with counters := { c.counters with
        withheld := capAdd Config.counter32Max c.counters.withheld 1 } }, m, false)
  else
    let r := storePacket p failed c m
    match r.offset with
    | none => (r.chan, r.mem, false)
    | some offset =>
      let q := recordPacket p offset failed r.superseded r.chan
      ({ q.1 with window := windowCounts p.words.length q.1.window }, r.mem, q.2)

/-- Counts a packet that a HELD channel drops (R122 step 1). -/
def dropHeld (c : InChannel) : InChannel :=
  { c with
    heldDrop := capAdd 65535 c.heldDrop 1
    counters := { c.counters with heldDropped := capAdd Config.counter32Max c.counters.heldDropped 1 } }

/-- One subscribed channel takes a matching packet (R121, R122). -/
def channelTakes (p : Sample) (failed : Bool) (ch : Channel) (s : State) : State :=
  let c := s.inb.get ch
  if c.defn.stream ≠ p.stream then s
  else match c.state with
    | .closed => s
    | .held => setIn ch (dropHeld c) s
    | .waiting =>
      let r := takePacket p failed { c with state := .receiving, holder := some p.holder } s.mem
      raise .channel { setIn ch r.1 s with mem := r.2.1 }
    | .receiving =>
      let r := takePacket p failed c s.mem
      raiseIf r.2.2 .channel { setIn ch r.1 s with mem := r.2.1 }

/-- A matching packet taken while JOINED or LEAVING is handed to the channels in turn (R121). -/
def deliverSample (p : Sample) (failed : Bool) (s : State) : State := eachChannel (channelTakes p failed) s

/-- A matching packet taken while JOINING only shows WAITING channels their holder (R121). -/
def showHolder (p : Sample) (ch : Channel) (s : State) : State :=
  let c := s.inb.get ch
  if c.defn.stream = p.stream ∧ c.state = .waiting then
    raise .channel (setIn ch { c with state := .receiving, holder := some p.holder } s)
  else s

/-! ### What the map's reports do to a channel (R120) -/

/-- Stream-held report for stream `n` (R120). -/
def heldReportTo (n : Stream) (ch : Channel) (s : State) : State :=
  let c := s.inb.get ch
  let holder := streamHolder s.map.entries n
  if c.defn.stream ≠ n then s
  else match c.state with
    | .closed => s
    | .waiting => raise .channel (setIn ch { c with state := .receiving, holder := holder, endSeen := false } s)
    | .receiving => setIn ch { c with holder := holder } s
    | .held => setIn ch { c with holder := holder, endSeen := false } s

/-- Stream-held report, taken while JOINING, JOINED or LEAVING (R120). -/
def streamHeldReport (n : Stream) (s : State) : State := if inRack s then eachChannel (heldReportTo n) s else s

/-- The stream of channel `ch` has lost its last slot (R120, R135). -/
def loseStream (ch : Channel) (s : State) : State :=
  match (s.inb.get ch).state with
  | .closed => s
  | .waiting => s
  | .receiving => streamEnds .waiting ch s
  | .held => streamEnds .held ch s

/-- Stream-freed report for stream `n` to one channel (R120). -/
def freedReportTo (n : Stream) (ch : Channel) (s : State) : State :=
  if (s.inb.get ch).defn.stream = n then loseStream ch s else s

/-- Stream-freed report, taken while JOINING, JOINED or LEAVING (R120). -/
def streamFreedReport (n : Stream) (s : State) : State := if inRack s then eachChannel (freedReportTo n) s else s

/-- Stream-freed reports for streams in turn. -/
def streamsFreed : List Stream → State → State
  | [], s => s
  | n :: ns, s => streamsFreed ns (streamFreedReport n s)

/-- A WAITING channel whose stream has a holder in the map becomes RECEIVING: the joined report (R120). -/
def joinedReportTo (ch : Channel) (s : State) : State :=
  let c := s.inb.get ch
  match c.state, streamHolder s.map.entries c.defn.stream with
  | .waiting, some h => raise .channel (setIn ch { c with state := .receiving, holder := some h } s)
  | _, _ => s

/-- A channel is judged against the map again when the resync state leaves GATHERING (R120). -/
def reevaluate (ch : Channel) (s : State) : State :=
  let c := s.inb.get ch
  match c.state, streamHolder s.map.entries c.defn.stream with
  | .closed, _ => s
  | .waiting, some h => raise .channel (setIn ch { c with state := .receiving, holder := some h } s)
  | .waiting, none => s
  | .receiving, some h => setIn ch { c with holder := some h } s
  | .held, some h => setIn ch { c with holder := some h } s
  | .receiving, none => loseStream ch s
  | .held, none => loseStream ch s

/-- Every open channel is judged again, while JOINING, JOINED or LEAVING (R120). -/
def reevaluateInbound (s : State) : State := if inRack s then eachChannel reevaluate s else s

/-! ### Holds and withdrawal (R129, R137) -/

/-- Packets were dropped by a hold: the next record carries HELD-DROPPED and GAP (R129). -/
def settleHold (c : InChannel) : InChannel :=
  { c with
    pendingFlags := if c.heldDrop = 0 then c.pendingFlags
      else { c.pendingFlags with heldDropped := true, gap := true }
    heldDrop := 0 }

/-- An open channel goes to WAITING and a HELD one is treated as resumed (R137). -/
def toWaiting (c : InChannel) : InChannel :=
  match c.state with
  | .closed => c
  | .held => { settleHold c with state := .waiting, holder := none }
  | _ => { c with state := .waiting, holder := none }

/-- Every open inbound channel goes to WAITING (R70, R137). -/
def inboundWaits (s : State) : State := { s with inb := s.inb.map toWaiting }

end Sys2Proof.Machine
end

