-- ==== Sys2Proof/Machine/Outbound.lean ====
section
/-! DEFINITION. The Outbound Engine: claiming, outcomes, pausing, building SAMPLEs, closing and lost channels, and the
admission of reserved packets to the control queue with what a displacement does to its owner. -/
namespace Sys2Proof.Machine

/-- Replaces outbound channel `ch`. -/
def setOut (ch : Channel) (c : OutChannel) (s : State) : State := { s with out := s.out.set ch c }

/-- Changes outbound channel `ch`. -/
def modifyOut (ch : Channel) (f : OutChannel → OutChannel) (s : State) : State := setOut ch (f (s.out.get ch)) s

/-! ### Record changes -/

/-- The queue is flushed and its words counted as discarded (R98, R108). -/
def flushQueue (c : OutChannel) : OutChannel :=
  { c with queue := [], discarded := capAdd Config.counter48Max c.discarded c.queue.length }

/-- The values of the column "At open" of Table 5-1. -/
def openRecord (c : OutChannel) : OutChannel :=
  { OutRun.initial with
    state := .opening, firstPending := true, defn := c.defn, queue := [], releasesOut := 0, emptyAttempt := false }

/-- What a channel that becomes CLOSED resets, its queue having been flushed (R110). Its notes are cleared also where the
leave kind of withdrawal closes it, though R70 ends by keeping the notes the channels hold: the model's choice (log 50). -/
def closedRecord (c : OutChannel) : OutChannel :=
  { c with
    state := .closed, slots := [], claims := [], attempts := 0, firstPending := false, drain := false,
    closePending := false, closingTo := none, timeStep := false, dropped := false, releasesOut := 0,
    emptyAttempt := false }

/-- What a channel that becomes LOST changes; a close that was under way is remembered in closing to (R112). A close pending
is cleared and a closing to LOST becomes absent, on both of which R112 is silent: the model's choice (log 60). FIRST pending
and the last claim outcome, on which it is silent too, are kept: the model's choice (log 93). -/
def lostRecord (c : OutChannel) : OutChannel :=
  { c with
    state := .lost, slots := [], claims := [], attempts := 0, closePending := false
    closingTo := if c.closePending || c.closingTo = some .closed then some .closed else none
    releasesOut := 0, emptyAttempt := false }

/-- A channel becomes CLOSED; from CLOSING that raises CHANNEL (R110, R115). -/
def becomeClosed (ch : Channel) (s : State) : State :=
  let c := s.out.get ch
  raiseIf (c.state = .closing) .channel (setOut ch (closedRecord (flushQueue c)) s)

/-- A channel becomes LOST (R112). -/
def becomeLost (ch : Channel) (s : State) : State := raise .channel (modifyOut ch lostRecord s)

/-! ### Pause causes (R107) -/

/-- The station state is a pause cause: not JOINED, but for a LEAVING station up to its leave closing (R107). -/
def stationPauses (s : State) : Bool :=
  s.station.state != .joined && !(s.station.state = .leaving && s.progress.leaveClosingDue)

/-- A pause cause holds (R107). -/
def pauseCause (s : State) : Bool :=
  !s.framer.framed || s.guard.state = .quiet || s.map.resync != .none || stationPauses s

/-- OPEN or OPEN-SHORT by the slots held (R101, R107). -/
def openState (c : OutChannel) : OutState := if c.defn.wanted ≤ c.slots.length then .opened else .openShort

/-- A channel pauses or resumes as the causes stand (R107). -/
def pauseChannel (cause : Bool) (c : OutChannel) : OutChannel :=
  match c.state with
  | .opened => if cause then { c with state := .paused } else c
  | .openShort => if cause then { c with state := .paused } else c
  | .paused => if cause then c else { c with state := openState c }
  | _ => c

/-- Every channel pauses or resumes as the causes stand (R107). -/
def settlePause (s : State) : State := { s with out := s.out.map (pauseChannel (pauseCause s)) }

/-! ### Claiming (R99 to R103) -/

/-- The CLAIM of channel `ch` for the listed slots. -/
def claimEntry (s : State) (ch : Channel) (slots : List Slot) : QueueEntry :=
  .claim ch { station := stationId s, stream := (s.out.get ch).defn.stream, slots := slots }

/-- Every slot listed on a pending claim list of any channel (R100). -/
def claimedSlots (s : State) : List Slot := (s.out.list.map fun c => c.claims.flatten).flatten

/-- The slots of one attempt, in candidate order, as the lists of its CLAIMs: four slots in the first and the others in
a second (R100). -/
def attemptLists (ch : Channel) (s : State) : List (List Slot) :=
  let c := s.out.get ch
  let candidates := ((freeSlots s.map).filter fun l => !(claimedSlots s).contains l).take
    (c.defn.wanted - c.slots.length)
  [candidates.take 4, (candidates.drop 4).take 4].filter fun g => !g.isEmpty

/-- A new attempt, asked for on the Engine's own account: its CLAIMs join the pending list and are offered, and an
attempt without a candidate waits to complete (R100). -/
def startAttempt (ch : Channel) (s : State) : State :=
  let lists := attemptLists ch s
  offerAll (lists.map (claimEntry s ch))
    (modifyOut ch (fun c => { c with attempts := c.attempts + 1, claims := lists, emptyAttempt := lists.isEmpty }) s)

/-- An OPENING channel chooses no further attempt in LEAVING (R111), nor while a close is pending (log 22). -/
def noFurtherAttempt (ch : Channel) (s : State) : Bool :=
  s.station.state = .leaving || (s.out.get ch).closePending

/-- The channel ends its claiming in `st`, or PAUSED while a pause cause holds (R101). -/
def endClaiming (ch : Channel) (st : OutState) (s : State) : State :=
  raise .channel (modifyOut ch (fun c => { c with state := if pauseCause s then .paused else st }) s)

/-- The budget is spent without a slot (R101). -/
def becomeFailed (ch : Channel) (s : State) : State :=
  raise .channel (modifyOut ch
    (fun c => { flushQueue c with state := .failed, firstPending := false, timeStep := false, dropped := false }) s)

/-- The attempt of an OPENING channel is complete when no CLAIM of it is pending (R101). -/
def completeAttempt (ch : Channel) (s : State) : State :=
  let c := s.out.get ch
  if c.state = .opening ∧ c.claims = [] ∧ c.emptyAttempt = false then
    if c.defn.wanted ≤ c.slots.length then endClaiming ch .opened s
    else if c.attempts < 4 then if noFurtherAttempt ch s then s else startAttempt ch s
    else if c.slots = [] then becomeFailed ch s
    else endClaiming ch .openShort s
  else s

/-- An attempt that found no candidate completes (R100). -/
def completeEmptyAttempt (ch : Channel) (s : State) : State :=
  if (s.out.get ch).emptyAttempt then completeAttempt ch (modifyOut ch (fun c => { c with emptyAttempt := false }) s)
  else s

/-- Attempts without a candidate complete, at a round boundary or an unframed opportunity (R100). The channels choose again
from 0 to 7: the model's choice (log 91). -/
def completeEmptyAttempts (s : State) : State := eachChannel completeEmptyAttempt s

/-- Withdraws the channel's CLAIMs that have not started; one in flight stays pending (R16, R108). An attempt whose last
CLAIM is so withdrawn does not complete: the model's choice (log 73). -/
def withdrawClaims (ch : Channel) (s : State) : State :=
  withdrawEntries (isClaimOf ch)
    (modifyOut ch (fun c => { c with claims := c.claims.filter fun l => inFlight s (claimEntry s ch l) }) s)

/-! ### Releasing and closing (R108 to R112) -/

/-- A RELEASE of the channel for the listed slots is queued (R108, R110). -/
def releaseSlots (ch : Channel) (slots : List Slot) (s : State) : State :=
  if slots = [] then s
  else
    offerEntry (.release (some ch) { station := stationId s, stream := (s.out.get ch).defn.stream, slots := slots })
      (modifyOut ch (fun c => { c with releasesOut := c.releasesOut + 1 }) s)

/-- A CLOSING channel with nothing left to release leaves CLOSING for its closing-to state (R110). -/
def closingDone (ch : Channel) (s : State) : State :=
  let c := s.out.get ch
  if c.state = .closing ∧ c.slots = [] ∧ c.claims = [] ∧ c.releasesOut = 0 then
    match c.closingTo with
    | some .lost => becomeLost ch s
    | _ => becomeClosed ch s
  else s

/-- The channel becomes CLOSING toward `to`: CLAIMs withdrawn, the slots it holds released (R108, R111). -/
def beginClosing (ch : Channel) (goal : ClosingTo) (s : State) : State :=
  let s := withdrawClaims ch s
  let s := releaseSlots ch (s.out.get ch).slots s
  closingDone ch
    (modifyOut ch (fun c => { c with state := .closing, closingTo := some goal, emptyAttempt := false }) s)

/-- The channel's CLAIMs are withdrawn at the entry to LEAVING; a CLOSING channel left with nothing to release leaves
CLOSING (R63, R103, R110). -/
def giveUpClaims (ch : Channel) (s : State) : State := closingDone ch (withdrawClaims ch s)

/-- A close is carried out (R108). -/
def carryOutClose (ch : Channel) (s : State) : State :=
  beginClosing ch .closed (modifyOut ch (fun c => { flushQueue c with drain := false, closePending := false }) s)

/-- A pending close of the channel is carried out (R108). -/
def carryOutPending (ch : Channel) (s : State) : State := if (s.out.get ch).closePending then carryOutClose ch s else s

/-- Every pending close is carried out, at a round boundary or at the loss of framing (R108), channel by channel from 0 to 7:
the model's choice (log 92). -/
def carryOutCloses (s : State) : State := eachChannel carryOutPending s

/-- States with claims or slots that a leave or a loss takes from a channel. -/
def isOpenState (st : OutState) : Bool := st = .opening || st = .opened || st = .openShort || st = .paused

/-- The leave closing of one channel, by the leave outcome of the moment (R111). -/
def leaveCloseChannel (outcome : LeaveOutcome) (ch : Channel) (s : State) : State :=
  if isOpenState (s.out.get ch).state then
    match outcome with
    | .parked => carryOutClose ch s
    | .listening =>
      if (s.out.get ch).slots = [] then becomeLost ch (withdrawClaims ch s) else beginClosing ch .lost s
  else s

/-- The leave closing (R63, R111), channel by channel from 0 to 7: the model's choice (log 92). -/
def leaveClosing (s : State) : State :=
  if s.progress.leaveClosingDue then
    eachChannel (leaveCloseChannel (s.station.leaveOutcome.getD .parked))
      { s with progress.leaveClosingDue := false }
  else s

/-- The channel's own RELEASE is taken: the slots it listed leave the slot list (R110). -/
def ownReleaseTaken (ch : Channel) (r : Release) (s : State) : State :=
  closingDone ch (modifyOut ch (fun c => { c with
    slots := c.slots.filter fun l => !r.slots.contains l
    releasesOut := c.releasesOut - 1 }) s)

/-- The channel becomes CONFLICT (R102). -/
def enterConflict (ch : Channel) (s : State) : State :=
  let s := withdrawClaims ch s
  let s := raise .channel (modifyOut ch
    (fun c => { flushQueue c with state := .conflict, firstPending := false, timeStep := false, dropped := false,
                                  emptyAttempt := false }) s)
  releaseSlots ch (s.out.get ch).slots s

/-- The last claim outcome a result leaves in the record (Table 5-1). -/
def outcomeOf : ClaimResult → LastOutcome
  | .notMember => .notMember
  | .streamConflict => .streamConflict
  | .judged v =>
    .counts (v.countP fun x => x.2 = .granted) (v.countP fun x => x.2 = .taken) (v.countP fun x => x.2 = .cap)

/-- The slots a result grants. -/
def grantsOf : ClaimResult → List Slot
  | .judged v => grantedSlots v
  | _ => []

/-- The outcome of the channel's own CLAIM (R101): nothing if the channel's pending list does not hold it. -/
def claimOutcome (ch : Channel) (claim : Claim) (r : ClaimResult) (s : State) : State :=
  let c := s.out.get ch
  if claim.slots ∈ c.claims then
    let s := setOut ch { c with claims := c.claims.erase claim.slots, lastOutcome := some (outcomeOf r) } s
    let bound := modifyOut ch (fun c => { c with slots := c.slots ++ grantsOf r }) s
    match c.state with
    | .opening => if r = .streamConflict then enterConflict ch s else completeAttempt ch bound
    | .closing => closingDone ch (releaseSlots ch (grantsOf r) bound)
    | .conflict => releaseSlots ch (grantsOf r) bound
    | _ => s
  else s

/-! ### Opening, re-claiming, losing slots (R99, R113, R114) -/

/-- The channel is opened and its first attempt started on the Engine's own account (R99). -/
def openChannel (ch : Channel) (s : State) : State := startAttempt ch (modifyOut ch openRecord s)

/-- The channel re-claims: OPENING with a fresh budget, FIRST pending (R113). -/
def reclaim (ch : Channel) (s : State) : State :=
  startAttempt ch (modifyOut ch (fun c => { c with
    state := .opening, attempts := 0, firstPending := true, emptyAttempt := false }) s)

/-- What the joined report does to one channel (R113). -/
def joinedOut (ch : Channel) (s : State) : State :=
  let c := s.out.get ch
  match c.state with
  | .lost => if c.closingTo = some .closed then becomeClosed ch s else reclaim ch s
  | .closed => if c.defn.autoOpen then openChannel ch s else s
  | _ => s

/-- A SLOT-LOST note (R114). A channel left with no slot re-claims in LEAVING too, before the leave closing: the model's
choice (log 83). -/
def slotLost (ch : Channel) (l : Slot) (s : State) : State :=
  let s := raise .channel (modifyOut ch (fun c => { c with
    slots := c.slots.filter (· != l), slotsLost := capAdd 255 c.slotsLost 1 }) s)
  let c := s.out.get ch
  match c.state with
  | .closing => closingDone ch s
  | .opened => if c.slots = [] then reclaim ch s else s
  | .openShort => if c.slots = [] then reclaim ch s else s
  | .paused => if c.slots = [] then reclaim ch s else s
  | _ => s

/-! ### Withdrawal and isolation (R70, R112) -/

/-- A CONFLICT channel has nothing left to release once the map is cleared or frozen (log 23). -/
def emptyConflict (ch : Channel) (s : State) : State :=
  modifyOut ch (fun c => { c with slots := [], claims := [], releasesOut := 0 }) s

/-- A channel loses its slots and keeps its queue: the rejoin kind of withdrawal and the entry to ISOLATED (R70,
R112). -/
def loseChannel (ch : Channel) (s : State) : State :=
  match (s.out.get ch).state with
  | .opening => becomeLost ch s
  | .opened => becomeLost ch s
  | .openShort => becomeLost ch s
  | .paused => becomeLost ch s
  | .closing => becomeLost ch s
  | .conflict => emptyConflict ch s
  | _ => s

/-- The leave kind of withdrawal: every channel not CLOSED or LOST becomes CLOSED (R70). One that had a close pending, and
was not CLOSING, raises no CHANNEL by it, though its close may have answered STARTED: the model's choice (log 104). -/
def closeChannel (ch : Channel) (s : State) : State :=
  match (s.out.get ch).state with
  | .closed => s
  | .lost => s
  | _ => becomeClosed ch s

/-- What a withdrawal does to the outbound channels (Table 3-2). -/
def withdrawOutbound (k : Withdrawal) (s : State) : State :=
  match k with
  | .rejoin => eachChannel loseChannel s
  | .leave => eachChannel closeChannel s
  | .admission => s

/-! ### Sending (R104 to R106, R109) -/

/-- The channel whose slot list holds the slot (R104). -/
def channelOf (s : State) (l : Slot) : Option Channel :=
  (List.finRange 8).find? fun ch => (s.out.get ch).slots.contains l

/-- The channel may send in this lane, the pair being quiet (R104). -/
def channelMaySend (ch : Channel) (s : State) : Bool :=
  let c := s.out.get ch
  s.framer.framed && mayTransmit s && guardLetsSend s && s.map.resync = .none
    && (c.state = .opened || c.state = .openShort) && !c.queue.isEmpty

/-- The next SAMPLE empties the queue of a draining channel, and so carries END (R105, R109). -/
def endsDrain (c : OutChannel) : Bool := c.drain && (c.queue.drop Config.sampleWords).isEmpty

/-- The SAMPLE the channel builds for lane `l` (R105). -/
def sampleOf (ch : Channel) (l : Lane) (s : State) : Sample :=
  let c := s.out.get ch
  let taken := c.queue.take Config.sampleWords
  let head := taken.head?
  { holder := stationId s
    stream := c.defn.stream
    lane := l
    tag := c.nextTag
    time := (head.map (·.time)).getD 0
    flags :=
      { first := c.firstPending
        last := endsDrain c
        freeTime := head.any fun e => e.lock = .unlockedTime
        timeStep := c.timeStep
        dropped := c.dropped }
    words := taken.map (·.word) }

/-- The record after a SAMPLE of it was built and started (R105, R106). -/
def sentRecord (c : OutChannel) : OutChannel :=
  { c with
    queue := c.queue.drop Config.sampleWords
    nextTag := succWrap Config.sampleTags c.nextTag
    firstPending := false
    timeStep := false
    dropped := false
    sent := capAdd Config.counter48Max c.sent (c.queue.take Config.sampleWords).length
    packets := capAdd Config.counter48Max c.packets 1 }

/-- A SAMPLE of the channel starts: its words, its tag and its notes are spent, and the one that ends a drain carries out
the closing (R105, R106, R109). -/
def spendSample (ch : Channel) (s : State) : State :=
  let s' := modifyOut ch sentRecord s
  if endsDrain (s.out.get ch) then carryOutClose ch s' else s'

/-! ### Reserved packets (R14) -/

/-- The entry a reserved packet displaces when the queue is full: the youngest of the highest class number that has not
started (R14, R16; log 16). -/
def displaced (s : State) : Option QueueEntry := s.trunk.queue.reverse.find? fun e => isOrdinary e && !inFlight s e

/-- The list without the last entry equal to `e`. -/
def eraseLast (e : QueueEntry) (q : List QueueEntry) : List QueueEntry := (q.reverse.erase e).reverse

/-- The owner of a displaced entry: a CLAIM counts as one that granted nothing, after which a CLOSING channel may have
nothing left to wait for; the others are offered again (R103, R110, R15). The channel's last claim outcome stays as it was:
the model's choice (log 99). -/
def tellDisplaced (e : QueueEntry) (s : State) : State :=
  match e with
  | .claim ch c => closingDone ch (completeAttempt ch (modifyOut ch (fun x => { x with claims := x.claims.erase c.slots }) s))
  | e => { s with trunk.waiting := s.trunk.waiting ++ [e] }

/-- A reserved packet is asked for: absorbed into a held entry of its kind, admitted, or admitted in place of the
youngest ordinary entry (R14). -/
def admitReserved (e : QueueEntry) (s : State) : State :=
  if s.trunk.queue.any fun x => entryClass x = entryClass e then s
  else if s.trunk.queue.length < Config.queueEntries then enqueue e s
  else
    match displaced s with
    | some d => tellDisplaced d (enqueue e { s with trunk.queue := eraseLast d s.trunk.queue })
    | none => s

end Sys2Proof.Machine
end

