-- ==== Sys2Proof/Machine/Views.lean ====
section
/-! DEFINITION. What the service port and READ-CHANNEL show of the state: records read live, and the snapshot copy. -/
namespace Sys2Proof.Machine

/-- The map record (Table 4-2). -/
def mapRecord (s : State) : MapRecord :=
  { epoch := s.map.epoch
    ownHeld := heldCount s.map.entries (stationId s)
    free := s.map.entries.count isFree
    resync := s.map.resync
    gathered := s.map.gathered
    gatherMarks := s.map.gatherMarks
    consecutive := s.map.consecutive
    boundariesSince := s.map.boundariesSince
    outstanding := s.map.outstanding
    lastTest := s.map.lastTest
    stray := s.map.stray
    mismatch := s.map.mismatch
    foundOwn := s.map.foundOwn }

/-- The election field of the timebase record. -/
def electionField : Election → ElectionField
  | .idle => .idle
  | .backoff _ => .backoff
  | .takeoverQueued => .takeoverQueued

/-- The empty-trunk listen field of the timebase record; a listen that has run out and waits for its cut-in still shows
as running (log 21). -/
def listenField : Listen → ListenField
  | .idle => .idle
  | .running _ => .running
  | .ranOut => .running
  | .cutIn _ => .cutIn

/-- The timebase record (Table 2-2). The table gives the unsent count and the page counter "while source": outside a
tenure the record shows an unsent count of 0 and the page counter as the last tenure left it, the model's choice
(log 55). The expected MARK is the one a TAKEOVER or HANDOFF set, at the time it set: the model's choice (log 77). -/
def timebaseRecord (s : State) : TimebaseRecord :=
  { lock := s.tb.lock
    rack := s.clock.rack
    hold := holdRemaining s
    period := s.tb.period
    framed := s.framer.framed
    round := s.framer.round
    role := s.tb.role
    designated := s.tb.designated
    designatedRank := s.tb.designatedRank
    lastMark := s.tb.lastMark
    missed := s.tb.missed
    expected := s.tb.expected
    unsent := s.tb.unsent
    pageCounter := s.tb.pageCounter.val
    election := electionField s.tb.election
    listen := listenField s.tb.listen
    quality := s.tb.lastQuality }

/-- Ticks of blanking that remain (Table 7-2, R140). -/
def blankingRemaining (s : State) : Nat := s.trig.blankUntil - s.clock.ticks

/-- The trigger record (Table 7-2). -/
def triggerRecord (s : State) : TriggerRecord :=
  { settings := s.trig.settings
    filtered := s.trig.filtered
    blanking := blankingRemaining s
    nextSeq := s.trig.nextSeq
    pendingTrigger := s.trig.pendingTrigger
    overruns := s.trig.overruns
    lastMade := s.trig.lastMade
    lastSeq := s.trig.lastSeq }

/-- An outbound channel as R115 returns it. -/
def outView (c : OutChannel) : OutView :=
  { defn := c.defn, run := c.toOutRun, depth := c.queue.length, headTime := c.queue.head?.map (·.time) }

/-- An inbound channel as R136 returns it. -/
def inView (c : InChannel) : InView :=
  { defn := c.defn, run := c.toInRun, logCount := c.log.length, oldestTag := c.log.head?.map (·.tag),
    window := c.window }

/-- The copy a snapshot makes (R185). -/
def snapshotOf (s : State) : Snapshot :=
  { round := s.framer.round, time := s.clock.rack, framed := s.framer.framed, roster := s.roster,
    slots := s.map.entries, map := mapRecord s, timebase := timebaseRecord s, guard := s.guard }

/-- The copy is taken and replaces any snapshot in the area; nothing is pending then (R185). -/
def takeSnapshot (s : State) : State := { s with snapshots := { pending := false, copy := some (snapshotOf s) } }

/-- A pending snapshot is taken (R185). -/
def takePendingSnapshot (s : State) : State := if s.snapshots.pending then takeSnapshot s else s

end Sys2Proof.Machine
end

