-- ==== Sys2Proof/Machine/Membership.lean ====
section
/-! DEFINITION. The Membership Controller: the Roster, the moves of the station state, leaving, withdrawal, isolation. -/
namespace Sys2Proof.Machine

/-! ### The Roster (R46, R47) -/

/-- Replaces Roster entry `i`; a change of its state raises ROSTER (R46). -/
def setEntry (i : StationId) (e : RosterEntry) (s : State) : State :=
  raiseIf (e.state != (s.roster.get i).state) .roster { s with roster := s.roster.set i e }

/-- A single entry becomes ABSENT (R46), and its last trigger sequence with it (R144). -/
def makeAbsent (i : StationId) (s : State) : State :=
  let e := s.roster.get i
  if e.state = .absent then s
  else
    setEntry i { e with state := .absent, miss := 0, joinedRound := none }
      { s with trig.lastSeq := s.trig.lastSeq.set i none }

/-- Entries become ABSENT, each as a single one does. -/
def makeAllAbsent : List StationId → State → State
  | [], s => s
  | i :: is, s => makeAllAbsent is (makeAbsent i s)

/-- The Roster is cleared (R46), and every last trigger sequence with it (R144). -/
def clearRoster (s : State) : State :=
  raiseIf (s.roster.list.any fun e => e.state != .absent) .roster
    { s with roster := Bank.fill 16 RosterEntry.cleared, trig.lastSeq := Bank.fill 16 none }

/-- The guard state as a presence word carries it (R52); ISOLATED, in which no word is sent, reads as QUIET. -/
def wordGuard : GuardState → WordGuard
  | .clear => .clear
  | .watch => .watch
  | .quiet => .quiet
  | .isolated => .quiet

/-- The presence word of this station, filled with the values current now (R52). -/
def presenceWord (s : State) : Presence :=
  { station := stationId s
    state := if s.station.state = .leaving then .leaving else .joined
    lock := s.tb.lock
    guard := wordGuard s.guard.state
    eligible := eligible s && s.station.state != .leaving
    rank := ownRank s
    trouble := s.guard.trouble
    held := heldCount s.map.entries (stationId s) }

/-- An entry with the values a presence word carries (R47, R48). -/
def copyWord (p : Presence) (e : RosterEntry) : RosterEntry :=
  { e with eligible := p.eligible, rank := p.rank, lock := p.lock, guard := p.guard, trouble := p.trouble,
           held := p.held }

/-- A source-adopted report: the source flag stands on the named entry alone (R51). -/
def sourceAdopted (j : StationId) (s : State) : State :=
  if beforeListening s then s
  else { s with roster := s.roster.mapIdx fun i e => { e with source := i = j } }

/-- The Roster's part of a source-lost report (R51). -/
def rosterSourceLost (lost : Option StationId) (s : State) : State :=
  if beforeListening s then s
  else
    let s := match lost with
      | some j => makeAbsent j s
      | none => s
    { s with roster := s.roster.map fun e => { e with source := false } }

/-! ### Moves of the station state (R45) -/

/-- The station state changes: STATE is raised, a block reason outside BLOCKED and a leave outcome outside LEAVING are
removed, and the view omission count is 0 (R45, R61). -/
def setStation (st : StationState) (s : State) : State :=
  raise .state { s with station := { s.station with
    state := st
    blockReason := if st = .blocked then s.station.blockReason else none
    leaveOutcome := if st = .leaving then s.station.leaveOutcome else none
    viewOmissions := 0 } }

/-- What the Membership Controller waits for is dropped with the state that waited. -/
def noProgress (v : BitVec 16) : Progress :=
  { learnBoundaries := 0, learned := false, joinBoundaries := 0, emptyTrunk := false, leavingDue := none,
    ownLeaveTaken := false, leaveClosingDue := false, presenceOn := false, ownWordRounds := [], lastView := v }

/-- The station stands outside the rack in state `st`: Roster and map cleared, inbound channels WAITING, no empty-trunk
listen (R46, R66, R71, R80, R137). -/
def standOutside (st : StationState) (s : State) : State :=
  let s := inboundWaits (clearRoster (setStation st s))
  { s with map := LaneMap.cleared, progress := noProgress s.progress.lastView, tb.listen := .idle }

/-- The empty-trunk listen starts anew, for an eligible station (R41). -/
def startListen (s : State) : State :=
  { s with tb.listen :=
      if eligible s then .running (s.clock.rack + Config.listenPeriods * ownPeriod s) else .idle }

/-- Entry to LISTENING (R55). -/
def enterListening (s : State) : State := startListen (standOutside .listening s)

/-- Entry to PARKED (R66). -/
def enterParked (s : State) : State := standOutside .parked s

/-- Entry to BLOCKED for a reason (R45, R71). -/
def enterBlocked (r : BlockReason) (s : State) : State :=
  let s := standOutside .blocked s
  { s with station.blockReason := some r }

/-! ### The pending TRIGGER slot (R142, R143) -/

/-- An overrun: the count rises and TRIGGER-OVERRUN is raised (R142). -/
def countOverrun (s : State) : State :=
  raise .triggerOverrun { s with trig.overruns := capAdd 65535 s.trig.overruns 1 }

/-- The pending TRIGGER slot is emptied; a TRIGGER removed counts as an overrun (R143). -/
def emptyTriggerSlot (s : State) : State :=
  if s.trig.pendingTrigger.isSome then countOverrun { s with trig.pendingTrigger := none } else s

/-! ### Withdrawal (R70) -/

/-- The guard fields a withdrawal and CLEAR ISOLATION set (R166, R167, Table 8-1). -/
def clearedGuard (g : GuardRecord) : GuardRecord :=
  { g with state := .clear, faults := 0, clean := 0, blanking := 0, interval := .none, reports := Reports.empty,
           leaveDue := false, trouble := false, troubleHold := 0 }

/-- A withdrawal's effect on the Link Guard; a state that was not CLEAR raises GUARD (R167). -/
def withdrawGuard (s : State) : State :=
  raiseIf (s.guard.state != .clear) .guard { s with guard := clearedGuard s.guard }

/-- A withdrawal (Table 3-2). The control queue is emptied by the cut-out that follows (R17). -/
def withdraw (k : Withdrawal) (s : State) : State :=
  let s := withdrawOutbound k (clearRoster s)
  let s := withdrawGuard (emptyTriggerSlot (inboundWaits s))
  { s with map := LaneMap.cleared, station.viewOmissions := 0, station.leaveOutcome := none }

/-! ### Leaving (R62 to R65) -/

/-- The better of two successors: lower rank, then lower ID (R39). -/
def betterSuccessor (s : State) (best : Option StationId) (i : StationId) : Option StationId :=
  match best with
  | none => some i
  | some b => if (s.roster.get i).rank < (s.roster.get b).rank then some i else some b

/-- An entry that may succeed this station as source: PRESENT, eligible, without its trouble flag, not this station
(R39). -/
def maySucceed (s : State) (i : StationId) : Bool :=
  let e := s.roster.get i
  e.state = .present && e.eligible && !e.trouble && i != stationId s

/-- The successor a HANDOFF names (R39). -/
def successorOf (s : State) : Option StationId :=
  ((List.finRange 16).filter (maySucceed s)).foldl (betterSuccessor s) none

/-- A leaving source queues its HANDOFF (R39). -/
def queueHandoff (s : State) : State :=
  if s.tb.role then admitReserved (.handoff (stationId s) (successorOf s)) s else s

/-- Entry to LEAVING from JOINED (R62, R63, R111). -/
def startLeaving (outcome : LeaveOutcome) (s : State) : State :=
  let s := setStation .leaving { s with station.leaveOutcome := some outcome }
  let s := eachChannel giveUpClaims { s with progress.leaveClosingDue := true }
  let s := admitReserved (.leave { station := stationId s }) (queueHandoff s)
  let s := { s with
    progress.leavingDue := some (s.clock.rack + Config.leavingPeriods * periodOrOwn s)
    progress.ownLeaveTaken := false }
  if s.framer.framed then s else leaveClosing s

/-- A REJOIN raised inside the station acts on a JOINED station alone (R69). -/
def raiseRejoin (s : State) : State := if s.station.state = .joined then startLeaving .listening s else s

/-- The end of LEAVING (R64). -/
def endLeaving (s : State) : State :=
  match s.station.leaveOutcome with
  | some .listening => enterListening (withdraw .rejoin s)
  | _ => enterParked (withdraw .leave s)

/-- LEAVING ends if the station's own LEAVE has been taken (R64). -/
def endLeavingIfTaken (s : State) : State :=
  if s.station.state = .leaving ∧ s.progress.ownLeaveTaken then endLeaving s else s

/-! ### Isolation (R68) -/

/-- Entry to ISOLATED (R68, R80, R112). -/
def enterIsolated (s : State) : State :=
  let s := eachChannel loseChannel (setStation .isolated s)
  { s with map := dropOwnSlots (stationId s) s.map, progress := noProgress s.progress.lastView, tb.listen := .idle }

/-! ### Becoming JOINED (R58, R60) -/

/-- The own entry of a station that becomes JOINED (R47). -/
def ownEntry (round : Nat) (s : State) : RosterEntry :=
  let e := copyWord (presenceWord s) (s.roster.get (stationId s))
  { e with state := .present, miss := 0, joinedRound := some round }

/-- The station becomes JOINED: counts, own entry, and the joined report to the Outbound Engine, the Inbound Engine and
the Link Guard (R58, R60). -/
def becomeJoined (round : Nat) (s : State) : State :=
  let s := setStation .joined { s with
    station.learnFails := 0, station.joinFails := 0, progress.emptyTrunk := false, progress.presenceOn := false }
  let s := setEntry (stationId s) (ownEntry round s) s
  let s := eachChannel joinedReportTo (eachChannel joinedOut s)
  { s with guard.reports.blanked := true }

/-- An end of JOINING or a return from LEARNING to LISTENING that is not a failure, with the withdrawal of the admission
kind (R56, R59, R60). -/
def abandonAdmission (s : State) : State := enterListening (withdraw .admission s)

end Sys2Proof.Machine
end

