-- ==== Sys2Proof/Machine/MapEvents.lean ====
section
/-! DEFINITION. The Lane Map in the station: freeing with its reports, CLAIM and RELEASE, the three tests, resync,
reconciliation and the learn attempt. -/
namespace Sys2Proof.Machine

/-! ### Freeing (R77 to R79) -/

/-- Frees what `p` picks, with the epoch's rise and the stream-freed reports (R73, R77 to R79). -/
def freeBy (p : Slot → Holding → Bool) (s : State) : State :=
  streamsFreed (lostStreams p s.map.entries) { s with map := freeMap p s.map }

/-- A LEAVE or a departure report frees every slot of the named station (R78, R74). -/
def departure (i : StationId) (s : State) : State := if takesTables s then freeBy (ofStation i) s else s

/-- Departure reports in turn. -/
def departuresOf : List StationId → State → State
  | [], s => s
  | i :: is, s => departuresOf is (departure i s)

/-- Departure reports that await the roll call are applied (R78). -/
def applyDepartures (s : State) : State := departuresOf s.map.departures { s with map.departures := [] }

/-- The Lane Map's part of a source-lost report (R79, R74). -/
def mapSourceLost (lost : Option StationId) (s : State) : State :=
  match lost with
  | some j => if takesTables s || s.station.state = .isolated then freeBy (ofStation j) s else s
  | none => s

/-! ### Reconciliation and the end of a resync (R89, R90) -/

/-- A slot of channel `ch` is bound but not this station's own for the channel's stream (R89). -/
def boundNotOwn (s : State) (ch : Channel) (l : Slot) : Bool :=
  (slotEntry s.map l).holding != some ⟨stationId s, (s.out.get ch).defn.stream⟩

/-- SLOT-LOST notes for slots in turn (R114). -/
def slotsLostOf (ch : Channel) : List Slot → State → State
  | [], s => s
  | l :: ls, s => slotsLostOf ch ls (slotLost ch l s)

/-- The channel's slots that are no longer its own leave its list (R89). -/
def dropUnowned (ch : Channel) (s : State) : State :=
  slotsLostOf ch ((s.out.get ch).slots.filter (boundNotOwn s ch)) s

/-- Slots the table shows as this station's own that stand in no channel's list (R89). -/
def unboundSlots (s : State) : List Slot :=
  (slotsOf s.map (stationId s)).filter fun l => (channelOf s l).isNone

/-- Lists of at most eight slots each, in order (R89); a station holds at most 96 slots, so twelve lists suffice. -/
def chunks8 : Nat → List Slot → List (List Slot)
  | 0, _ => []
  | n + 1, ls => if ls.isEmpty then [] else ls.take 8 :: chunks8 n (ls.drop 8)

/-- The reconciliation RELEASEs: for each stream among the unbound slots, up to eight slots each (R89). The streams come in
the order of the first slot of each: the model's choice (log 58). -/
def reconciliationReleases (s : State) : List QueueEntry :=
  let own := unboundSlots s
  let streams := (own.filterMap fun l => (slotEntry s.map l).holding.map (·.stream)).eraseDups
  (streams.map fun n =>
    (chunks8 12 (own.filter fun l => carries n (slotEntry s.map l))).map fun ls =>
      QueueEntry.release none { station := stationId s, stream := n, slots := ls }).flatten

/-- The resync ends (R90). -/
def endResync (s : State) : State :=
  raise .map { s with map := { s.map with
    resync := .none, boundariesSince := 0, outstanding := 0, mismatch := Bank.fill 16 0, stray := 0 } }

/-- The gathering is over: reconciliation, the end of the resync if nothing is to be released, and the inbound channels
judged again (R89, R120). The outbound channels are compared from 0 to 7: the model's choice (log 58). So is that
the CLAIMs of channels without a slot are offered before the RELEASEs (log 79). -/
def reconcile (s : State) : State :=
  let s := eachChannel dropUnowned s
  let releases := reconciliationReleases s
  let s := if releases.isEmpty then endResync s
    else offerAll releases { s with map.resync := .reconciling, map.outstanding := releases.length }
  reevaluateInbound s

/-- A reconciliation RELEASE of this station is taken (R90). One of an older resync, in flight as the new one started and
sent again in its RECONCILING, counts like one of the new: the model's choice (log 59). -/
def reconciliationTaken (s : State) : State :=
  if s.map.resync = .reconciling then
    let s := { s with map.outstanding := s.map.outstanding - 1 }
    if s.map.outstanding = 0 then endResync s else s
  else s

/-! ### Starting a resync (R86) -/

/-- A resync is to start with the consecutive count at `count`, and is not started: the third of a JOINED station (R86). A
count that stands at 3 from JOINING fails the next resync of the JOINED station as well: the model's choice (log 78). -/
def resyncFails (count : Nat) (s : State) : Bool := s.station.state = .joined && count = 3

/-- A resync is to start with the consecutive count at `count`: a failure report at the third of a JOINED station, a
gathering otherwise (R86). -/
def startResyncAt (count : Nat) (s : State) : State :=
  if resyncFails count s then
    raiseRejoin (raise .map { s with map.consecutive := count, map.failed := true })
  else
    raise .map { s with map := { startGathering s.map with
      resync := .gathering, consecutive := count, outstanding := 0, mismatch := Bank.fill 16 0 } }

/-- The consecutive count of a resync that starts now (R86). -/
def nextConsecutive (m : LaneMap) : Nat :=
  if m.boundariesSince < Config.consecutiveBoundaries then min 3 (m.consecutive + 1) else 1

/-- A resync cause (R86, R92). In RECONCILING the reconciliation RELEASEs are withdrawn for the new resync; where a JOINED
station's count reaches 3 no resync starts, and they stay with the phase: the model's choice (log 38). -/
def resyncCause (s : State) : State :=
  if s.tb.role || s.map.failed then s
  else
    let count := nextConsecutive s.map
    match s.map.resync with
    | .none => startResyncAt count s
    | .gathering => s
    | .reconciling => startResyncAt count (if resyncFails count s then s else withdrawEntries isReconciliation s)

/-! ### The three tests (R83 to R85) -/

/-- The epoch test (R83). -/
def epochTest (epoch : Nat) (s : State) : State :=
  if inRack s && !s.tb.role && s.map.resync != .gathering then
    let equal : Bool := epoch = s.map.epoch
    let s := { s with map.lastTest := some equal }
    if equal then s else resyncCause s
  else s

/-- The held-count comparison (R84). Words taken while the station is UNFRAMED are compared like any other, so two of them
can make a cause, though R84 ends by speaking of framed rounds alone: the model's choice (log 57). -/
def compareHeld (i : StationId) (held : Nat) (s : State) : State :=
  if inRack s && !s.tb.role && s.map.resync = .none then
    let agrees : Bool := heldCount s.map.entries i = held
    let run := s.map.mismatch.get i
    let s := { s with
      map.compared := s.map.compared.set i true
      map.mismatch := s.map.mismatch.set i (if agrees || run = 1 then 0 else 1) }
    if !agrees && run = 1 then resyncCause s else s
  else s

/-- A stray that passed its check is counted (R85). -/
def countStray (s : State) : State :=
  if inRack s && !s.tb.role && s.map.resync = .none then
    let before := s.map.stray
    let s := { s with map.stray := min 2 (before + 1) }
    if before = 1 then resyncCause s else s
  else s

/-! ### CLAIM and RELEASE (R75 to R77) -/

/-- The stream had no holder before the CLAIM and has one after it (R75). -/
def streamGained (n : Stream) (before after : LaneMap) : Bool :=
  streamCount before.entries n = 0 && streamCount after.entries n != 0

/-- A CLAIM is applied to the table, with the stream-held report; the result is for its owner (R75). -/
def applyClaim (c : Claim) (s : State) : ClaimResult × State :=
  let member := (s.roster.get c.station).state != .absent
  let r := evaluateClaim member c s.map
  let t := { s with map := r.2 }
  (r.1, if streamGained c.stream s.map r.2 then streamHeldReport c.stream t else t)

/-! ### Gathering a resync (R87, R88) -/

/-- A valid MARK while a resync is GATHERING (R87, R88). A gathering that fails starts again, counted as consecutive. -/
def resyncMark (m : Mark) (s : State) : State :=
  if allGathered s.map then
    reconcile { s with
      map.epoch := m.epoch, map.gatherMarks := capAdd Config.gatherLimit s.map.gatherMarks 1 }
  else
    let s := { s with map := gatherPage m.pageIndex m.page s.map }
    if s.map.gatherMarks = Config.gatherLimit ∧ allGathered s.map = false then
      startResyncAt (min 3 (s.map.consecutive + 1)) s
    else s

/-! ### The learn attempt (R56, R91) -/

/-- One more page of a learn attempt (R91). The MARK at which an attempt starts is the first it counts, so an attempt fails
at its 24th MARK with that one among them: the model's choice (log 53). -/
def learnPage (m : Mark) (s : State) : State :=
  let own := stationId s
  { s with map := { gatherPage m.pageIndex (withoutStation own m.page) s.map with
      foundOwn := s.map.foundOwn || pageNames own m.page } }

/-- The Lane Map starts a fresh map whose first page is the MARK's (R91). Departure reports that await the roll call
still do (R78). The Resync state shows NONE throughout the attempt: the model's choice (log 103). -/
def startLearning (m : Mark) (s : State) : State :=
  learnPage m { s with map := { LaneMap.cleared with departures := s.map.departures } }

/-- Entry to LEARNING at a MARK (R55, R56). -/
def enterLearning (m : Mark) (s : State) : State :=
  let s := setStation .learning s
  startLearning m { s with progress := noProgress s.progress.lastView, tb.listen := .idle }

/-- A learn attempt fails at a MARK (R56, R91, R93). -/
def learnFailure (m : Mark) (s : State) : State :=
  let s := raise .map s
  if s.station.learnFails + 1 < 3 then startLearning m { s with station.learnFails := s.station.learnFails + 1 }
  else enterBlocked .learnFail s

/-- A valid MARK in LEARNING (R88, R91). -/
def learnMark (m : Mark) (s : State) : State :=
  if s.progress.learned then s
  else if s.map.awaitCheck then
    if m.epoch = s.map.epoch ∧ s.map.foundOwn = false then { s with progress.learned := true }
    else learnFailure m s
  else if allGathered s.map then
    { s with
      map.epoch := m.epoch, map.awaitCheck := true
      map.gatherMarks := capAdd Config.gatherLimit s.map.gatherMarks 1 }
  else
    let s := learnPage m s
    if s.map.gatherMarks = Config.gatherLimit ∧ allGathered s.map = false then learnFailure m s else s

/-- What the Lane Map does with a valid MARK of another station (R74, R83, R87, R91). After a resync failure no page is
applied: the table stands until the withdrawal clears it (R86). -/
def mapTakesMark (m : Mark) (s : State) : State :=
  if s.station.state = .learning then learnMark m s
  else if inRack s then
    if s.map.resync = .gathering then (if s.map.failed then s else resyncMark m s) else epochTest m.epoch s
  else s

end Sys2Proof.Machine
end

