-- ==== Sys2Proof/Machine/Guard.lean ====
section
/-! DEFINITION. The Link Guard: reports, intervals, judgement, guard states and isolation. -/
namespace Sys2Proof.Machine

/-- The trouble flag as the guard state and the trouble hold make it; in ISOLATED it keeps its value (R160, R164). -/
def refreshTrouble (g : GuardRecord) : GuardRecord :=
  if g.state = .isolated then g else { g with trouble := g.state = .quiet || g.troubleHold != 0 }

/-- The guard state changes: GUARD is raised on a change, and an entry to QUIET is counted (R158). -/
def setGuard (st : GuardState) (s : State) : State :=
  if s.guard.state = st then s
  else
    raise .guard { s with guard := refreshTrouble { s.guard with
      state := st
      quietEntries := if st = .quiet then capAdd 255 s.guard.quietEntries 1 else s.guard.quietEntries } }

/-! ### Reports and notices (R154, R159, R160) -/

/-- Adds a report to the counts of the interval (R154). -/
def countReport (r : FaultReport) (c : ReportCounts) : ReportCounts :=
  match r with
  | .echo => { c with echo := capAdd 255 c.echo 1 }
  | .line => { c with line := capAdd 255 c.line 1 }
  | .stuck => { c with stuck := capAdd 255 c.stuck 1 }

/-- A STUCK report acts at once (R159). -/
def stuckAtOnce (s : State) : State :=
  let s := { s with guard.clean := 0 }
  if s.guard.state = .clear ∨ s.guard.state = .watch then setGuard .quiet s else s

/-- The guard works while the switch is INLINE, but in ISOLATED it gathers no report and judges no interval, also before
the cut-out (R154, R164; log 39). -/
def watches (s : State) : Bool := s.trunk.switch = .inline && s.guard.state != .isolated

/-- The guard gathers into the current interval (R154). A withdrawal has discarded the interval even where the cut-out is
deferred (R167; log 39). -/
def gathers (s : State) : Bool := watches s && s.guard.interval != .none

/-- A report to the Link Guard (R154, R159, R160). -/
def report (r : FaultReport) (s : State) : State :=
  if gathers s then
    let s := { s with guard.reports.counts := countReport r s.guard.reports.counts }
    let s := if r = .line then s else { s with guard := refreshTrouble { s.guard with troubleHold := 2 } }
    if r = .stuck then stuckAtOnce s else s
  else s

/-- The notice that a JOIN or a LEAVE was taken; a LEAVE also makes LEAVE blanking due (R154). -/
def noticeJoinLeave (isLeave : Bool) (s : State) : State :=
  if gathers s then
    { s with
      guard.reports.joinOrLeave := true
      guard.reports.leaveTaken := s.guard.reports.leaveTaken || isLeave
      guard.leaveDue := s.guard.leaveDue || isLeave }
  else s

/-! ### Intervals (R155) -/

/-- An interval begins with no report (R155). -/
def beginInterval (i : Interval) (s : State) : State :=
  { s with
    guard.interval := i
    guard.reports := { Reports.empty with leaveAtBegin := s.guard.leaveDue } }

/-- An UNFRAMED period that begins now (R155). -/
def unframedInterval (s : State) : Interval := .unframed (s.clock.rack + periodOrOwn s)

/-- The interval a cut-in begins (R155). -/
def cutInInterval (s : State) : State :=
  let s := beginInterval (if s.framer.framed then .framed else unframedInterval s) s
  { s with guard.blanking := s.guard.thresholds.blanking }

/-- The interval a cut-out ends, unjudged; the LEAVE blanking it was under goes with it (R155, R156, log 39). -/
def cutOutInterval (s : State) : State :=
  { s with
    guard.leaveDue := s.guard.reports.leaveTaken
    guard.interval := .none
    guard.reports := Reports.empty }

/-- A change of framing while INLINE: the interval in progress ends unjudged and its reports carry over (R155,
log 39). -/
def carryInterval (i : Interval) (s : State) : State :=
  if s.trunk.switch = .inline ∧ s.guard.interval ≠ .none then
    { s with
      guard.interval := i
      guard.reports := { s.guard.reports with leaveTaken := false, leaveAtBegin := s.guard.leaveDue } }
  else s

/-! ### Judgement (R156 to R158, R164, R165) -/

/-- The interval is blanked (R156). -/
def isBlanked (g : GuardRecord) : Bool :=
  g.blanking != 0 || g.reports.joinOrLeave || g.reports.leaveAtBegin || g.reports.blanked

/-- The reports fault the interval (R157). -/
def isFaulted (c : ReportCounts) : Bool := 1 ≤ c.echo || 1 ≤ c.stuck || 2 ≤ c.line

/-- The result of the judgement (R156, R157). -/
def verdictOf (g : GuardRecord) : Verdict :=
  if isBlanked g then .blanked else if isFaulted g.reports.counts then .faulted else .clean

/-- The counts after a judgement (R157). -/
def judgedCounts (v : Verdict) (g : GuardRecord) : GuardRecord :=
  match v with
  | .blanked => g
  | .faulted => { g with faults := capAdd 63 g.faults 1, clean := 0, faulted := capAdd 65535 g.faulted 1 }
  | .clean => { g with faults := 0, clean := capAdd 15 g.clean 1 }

/-- The guard state after a judgement, by the counts as it left them (Table 8-2). -/
def nextGuard (v : Verdict) (g : GuardRecord) : GuardState :=
  match v, g.state with
  | .blanked, st => st
  | .faulted, .clear => if g.thresholds.quiet ≤ g.faults then .quiet else .watch
  | .faulted, .watch => if g.thresholds.quiet ≤ g.faults then .quiet else .watch
  | .faulted, .quiet => if g.thresholds.isolate ≤ g.faults then .isolated else .quiet
  | .clean, .clear => .clear
  | .clean, .watch => .clear
  | .clean, .quiet => if g.thresholds.recover ≤ g.clean then .clear else .quiet
  | _, .isolated => .isolated

/-- The trip record of a judgement that isolates (Table 8-3). -/
def tripOf (k : IntervalKind) (s : State) : Trip :=
  { round := s.framer.round, kind := k, time := s.clock.rack, state := s.station.state
    counts := s.guard.reports.counts, faults := s.guard.faults, quietAt := s.guard.thresholds.quiet
    isolateAt := s.guard.thresholds.isolate }

/-- The guard record with the judgement entered: the last judgement, the counts, and what blanking is used up (R156,
R157). -/
def judgedRecord (k : IntervalKind) (round : Nat) (g : GuardRecord) : GuardRecord :=
  let v := verdictOf g
  judgedCounts v { g with
    last := some { kind := k, round := round, result := v, counts := g.reports.counts }
    blanking := g.blanking - 1
    leaveDue := if g.reports.leaveAtBegin then g.reports.leaveTaken else g.leaveDue }

/-- The current interval is judged; a judgement may isolate the station (R156 to R158, R164). -/
def judge (k : IntervalKind) (s : State) : State :=
  let v := verdictOf s.guard
  let s := { s with guard := judgedRecord k s.framer.round s.guard }
  let next := nextGuard v s.guard
  if next = .isolated ∧ s.guard.state ≠ .isolated then
    let s := { s with guard.trip := some (tripOf k s) }
    enterIsolated (setGuard .isolated s)
  else setGuard next s

/-- The end of an interval: it is judged, and the next begins, which after a judgement that isolated the station lasts to
the cut-out (R155, R164). -/
def endInterval (k : IntervalKind) (next : State → Interval) (s : State) : State :=
  let s := judge k s
  beginInterval (next s) s

/-- The Link Guard's work at a round boundary (R155, R164). -/
def guardBoundary (s : State) : State :=
  if watches s ∧ s.guard.interval = .framed then endInterval .framed (fun _ => .framed) s else s

/-- Each round boundary lowers the trouble hold (R160); in ISOLATED it stands (R164). -/
def lowerTroubleHold (s : State) : State :=
  if s.guard.state = .isolated then s
  else { s with guard := refreshTrouble { s.guard with troubleHold := s.guard.troubleHold - 1 } }

end Sys2Proof.Machine
end

