-- ==== Sys2Proof/Machine/Timebase.lean ====
section
/-! DEFINITION. The Timebase Unit: lock state, correction at a MARK, designation, the source role, source loss, the
election, and what the loss of framing does to every block. -/
namespace Sys2Proof.Machine

/-! ### Lock state (R21, R22) -/

/-- The period an acquisition or holdover is measured in (R21). -/
def lockPeriod (s : State) : Nat := if s.settings.isSome then periodOrOwn s else Config.periodMax

/-- The lock state becomes `l`, with the end of the interval it starts (R21). -/
def setLock (l : LockState) (s : State) : State :=
  { s with
    tb.lock := l
    tb.lockDue := match l with
      | .acquiring => some (s.clock.ticks + Config.acquisitionPeriods * lockPeriod s)
      | .holdover => some (s.clock.ticks + Config.holdoverPeriods * lockPeriod s)
      | _ => none }

/-- The detector consults a reference input: not while the station is source without a house reference (R22). -/
def detectorWatches (s : State) : Bool := !s.tb.role || houseConfigured s

/-- The watched input (R21, R22). -/
def watchedInput (s : State) : RefInput := if s.tb.role then .houseInput else .trunkPair

/-- The input carries cycles. -/
def inputPresent (i : RefInput) (s : State) : Bool :=
  match i with
  | .trunkPair => s.pins.trunkRef
  | .houseInput => s.pins.houseRef

/-- The watched input begins to carry cycles (R21). -/
def referenceAppears (s : State) : State :=
  match s.tb.lock with
  | .unlocked => setLock .acquiring s
  | .holdover => setLock .acquiring s
  | _ => s

/-- The watched input is lost (R21). -/
def referenceLost (s : State) : State :=
  match s.tb.lock with
  | .acquiring => setLock .unlocked s
  | .locked => setLock .holdover s
  | _ => s

/-- The watched input has changed with the role (R22). -/
def inputChanged (s : State) : State :=
  if inputPresent (watchedInput s) s then
    if s.tb.lock = .locked then s else setLock .acquiring s
  else referenceLost s

/-- The role begins or ends, with what that does to the lock state (R22), and SOURCE (R44). -/
def setRole (held : Bool) (s : State) : State :=
  if s.tb.role = held then s
  else
    let s := raise .source { s with tb.role := held }
    if houseConfigured s then inputChanged s
    else if held then setLock .unlocked s
    else if s.pins.trunkRef then setLock .acquiring s
    else setLock .unlocked s

/-- The reference quality a source places in its MARKs (R22). -/
def ownQuality (s : State) : RefQuality := if s.tb.lock = .locked then .house else .own

/-! ### Correction (R25, R26) -/

/-- The time-step note is handed to all 16 channel records (R26). -/
def raiseTimeStep (s : State) : State :=
  { s with
    out := s.out.map fun c => { c with timeStep := true }
    inb := s.inb.map fun c => { c with timeStep := true } }

/-- Rack time after the correction at a MARK: advanced at once, or held for the difference; the rest of an earlier hold
is dropped (Table 2-1). -/
def correctClock (time received : Nat) (c : Clock) : Clock :=
  if received ≤ time then
    { c with rack := min Config.rackTimeMax (c.rack + (time - received)), holdUntil := c.ticks }
  else { c with holdUntil := c.ticks + (received - time) }

/-- The correction sets the time-step note: the difference exceeds 2 ticks either way (Table 2-1). -/
def correctionSteps (time received : Nat) : Bool := time - received > 2 || received - time > 2

/-- The correction at a valid MARK (R25). -/
def correct (time received : Nat) (s : State) : State :=
  let s := { s with clock := correctClock time received s.clock }
  if correctionSteps time received then raiseTimeStep s else s

/-! ### Rank, key and designation (R30) -/

/-- The rank the Roster gives a station, while its entry is JOINING or PRESENT (R30). -/
def rosterRank (j : StationId) (s : State) : Option Nat :=
  if (s.roster.get j).state = .absent then none else some (s.roster.get j).rank.val

/-- A station's rank (R30). -/
def rankOf (j : StationId) (s : State) : Nat :=
  match rosterRank j s with
  | some r => r
  | none => if s.tb.designated = some j then s.tb.designatedRank else Config.noRank

/-- A key of rank and ID is better than another (R30). -/
def betterKey (rank₁ : Nat) (j₁ : StationId) (rank₂ : Nat) (j₂ : StationId) : Bool :=
  rank₁ < rank₂ || (rank₁ = rank₂ && j₁ < j₂)

/-- A MARK of `j` is valid for a station that is not the source (R30). -/
def markValid (j : StationId) (s : State) : Bool :=
  match s.tb.designated with
  | none => true
  | some d => d = j || betterKey (rankOf j s) j (rankOf d s) d

/-- The designation becomes `d` with rank `rank`; a change raises SOURCE (R44). -/
def designate (d : Option StationId) (rank : Nat) (s : State) : State :=
  raiseIf (s.tb.designated != d) .source { s with tb.designated := d, tb.designatedRank := rank }

/-- The designated source becomes none, and its rank counts as 8 (R30). -/
def designateNone (s : State) : State := designate none Config.noRank s

/-! ### The election and the listen (R34, R41) -/

/-- The backoff is cancelled and this station's TAKEOVER withdrawn (R31, R34, R35). -/
def cancelElection (s : State) : State := withdrawEntries isTakeover { s with tb.election := .idle }

/-- The conditions of the election (R34). -/
def electionHolds (s : State) : Bool :=
  !s.framer.framed && s.tb.designated = none && s.station.state = .joined && eligible s && guardLetsSend s

/-- The backoff's length (R34). Where no round period has been adopted P is the image's own: the model's choice
(log 47). -/
def backoffTicks (s : State) : Nat := (ownRank s + 1) * periodOrOwn s / 4

/-- An election backoff starts when its conditions hold and is cancelled when they stop (R34). -/
def settleElection (s : State) : State :=
  if electionHolds s then
    if s.tb.election = .idle then { s with tb.election := .backoff (s.clock.rack + backoffTicks s) } else s
  else if s.tb.election = .idle then s
  else cancelElection s

/-- The running listen of a LISTENING station starts again (R41). -/
def restartListen (s : State) : State := if s.station.state = .listening then startListen s else s

/-- The empty-trunk attempt ends without success (R42, R60). -/
def abandonEmptyTrunk (s : State) : State :=
  if s.station.state = .joining ∧ s.progress.emptyTrunk then abandonAdmission (cancelElection s) else s

/-! ### Expectation (R32) -/

/-- This station expects MARKs: it has a designated source, or is orphaned by the loss of its role (R32). -/
def expects (s : State) : Bool := !s.tb.role && (s.tb.designated.isSome || s.tb.orphan)

/-- The rack time of the next miss: the expectation of a TAKEOVER or HANDOFF, or one period after the last MARK, and a
period later for each miss counted (R32). -/
def missTime (s : State) : Nat :=
  match s.tb.expected with
  | some e => e.time + s.tb.missed * s.tb.period
  | none => s.tb.timeoutBase + (s.tb.missed + 1) * s.tb.period

/-- The rack time of the mark timeout (R32). -/
def timeoutTime (s : State) : Nat := s.tb.timeoutBase + Config.timeoutPeriods * s.tb.period

/-- The designated source's MARK is overdue (R32). -/
def overdue (s : State) : Bool := s.tb.missed != 0 || missTime s ≤ s.clock.rack

/-! ### The loss of framing (R20, R33, R40) -/

/-- The admission of a station that learns or joins ends with the source (R51, R56, R59); an empty-trunk JOINING has no
source to lose (R60). -/
def endAdmission (s : State) : State :=
  if s.station.state = .learning ∨ (s.station.state = .joining ∧ s.progress.emptyTrunk = false) then
    abandonAdmission s
  else s

/-- A FRAMED trunk turns UNFRAMED: the first quiet gap is measured from here, pacing counts none yet, and the guard's
interval is carried into an UNFRAMED period (R10, R11, R155). On a trunk already UNFRAMED nothing of this happens. -/
def framingEnds (s : State) : State :=
  if s.framer.framed then
    carryInterval (unframedInterval s) { s with
      framer.framed := false
      trunk.gapStart := s.clock.ticks
      trunk.pace.gaps := 0 }
  else s

/-- The Round Framer becomes UNFRAMED, or a source is lost on a trunk that is so already: departure reports are applied,
the admission ends, closings and the end of LEAVING are made at once, and a pending snapshot is taken (R20, R51, R63,
R64, R78, R108, R185). The copy shows the election of R34 as it stood before the loss: the model's choice (log 84).
That the freeings come before the end of the admission and of LEAVING is the model's choice (log 98). -/
def unframe (s : State) : State :=
  let s := endAdmission (applyDepartures (framingEnds s))
  takePendingSnapshot (endLeavingIfTaken (leaveClosing (carryOutCloses s)))

/-- The station a source loss names: none when the lost station is this one (R33). -/
def lostStation (s : State) : Option StationId :=
  if s.tb.orphan || s.tb.designated = some (stationId s) then none else s.tb.designated

/-- Source loss is declared (R33). -/
def declareLoss (s : State) : State :=
  let lost := lostStation s
  let s := raise .source (designateNone { s with
    tb.orphan := false, tb.expected := none, tb.missed := 0
    tb.lossDue := some (s.clock.rack + Config.lossPeriods * periodOrOwn s) })
  unframe (mapSourceLost lost (rosterSourceLost lost s))

/-! ### Gaining and losing the role (R22, R27, R36, R40, R42) -/

/-- The conditions under which the role can be gained (R27). -/
def canGainRole (s : State) : Bool :=
  s.trunk.switch = .inline && s.station.state = .joined && eligible s && guardLetsSend s

/-- The conditions under which the role is kept (R27). -/
def keepsRole (s : State) : Bool :=
  s.trunk.switch = .inline && (s.station.state = .joined || s.station.state = .leaving) && eligible s
    && guardLetsSend s

/-- The role is gained: first due time, round period, page counter 0, and the end of a gathering (R28, R36, R40, R42,
R92). The station designates itself and hands on the source-adopted report in each way of gaining it, also where R51
names no rule for it (R40, R42): the model's choice (log 45). Until a MARK of this tenure is sent, the time one period
before the first due time stands for the last MARK sent: the model's choice (log 46). An acquisition or holdover that the change of
input starts is measured in the period adopted before this one: the model's choice (log 66). Misses counted before the gain
are gone: the model's choice (log 97). -/
def gainRole (due : MarkAt) (period : Nat) (s : State) : State :=
  let own := stationId s
  let s := designate (some own) (ownRank s).val (setRole true s)
  let s := sourceAdopted own { s with
    tb.period := period, tb.markDue := some due, tb.lastSent := due.time - period, tb.pageCounter := 0
    tb.unsent := 0, tb.otherMark := none
    tb.expected := none, tb.missed := 0, tb.orphan := false, tb.election := .idle, tb.listen := .idle }
  if s.map.resync = .gathering then reconcile s else s

/-- Due times since the last MARK that passed read-back: those unsent, and that of a MARK still in flight (R29). Each has
begun its round, so each is a miss that has been counted when the role ends (R32); two are the most a station counts. -/
def missesAtDrop (s : State) : Nat := min 2 (s.tb.unsent + if markInFlight s then 1 else 0)

/-- The role ends and no source is designated: the Round Framer goes on by prediction from the last MARK sent, as after
the misses that stand already (R27, R32). A station that drops the role on an unframed trunk has sent no MARK that frames
it and expects none: the model's choice (log 46). -/
def dropRole (s : State) : State :=
  designateNone (setRole false { s with
    tb.markDue := none, tb.unsent := 0, tb.otherMark := none, tb.orphan := s.framer.framed
    tb.expected := none, tb.missed := if s.framer.framed then missesAtDrop s else 0
    tb.timeoutBase := s.tb.lastSent })

/-- The role ends for another station, which is designated (R29, R37, R39). No miss stands then (R31, R37; log 19 for
R39): for R29 the model's choice (log 97). -/
def passRole (j : StationId) (rank base : Nat) (s : State) : State :=
  let s := designate (some j) rank (setRole false s)
  sourceAdopted j { s with
    tb.markDue := none, tb.unsent := 0, tb.otherMark := none, tb.orphan := false, tb.expected := none
    tb.missed := 0, tb.timeoutBase := base }

/-- The role ends when a condition of R27 stops holding. -/
def settleRole (s : State) : State := if s.tb.role && !keepsRole s then dropRole s else s

/-- The station that marked within the last round period, with the time its MARK was received (R29): the latest of several,
the period counted with both its ends, the model's choice (log 87). -/
def recentOther (s : State) : Option (StationId × Nat) :=
  match s.tb.otherMark with
  | some x => if s.clock.rack ≤ x.2 + s.tb.period then some x else none
  | none => none

/-- A due MARK went unsent; at three the role is dropped for the station heard, or for none with source loss (R29). -/
def markUnsent (s : State) : State :=
  if !s.tb.role then s
  else if s.tb.unsent + 1 < 3 then { s with tb.unsent := s.tb.unsent + 1 }
  else
    match recentOther s with
    | some x => passRole x.1 ((rosterRank x.1 s).getD Config.noRank) x.2 s
    | none => declareLoss { dropRole s with tb.orphan := true }

end Sys2Proof.Machine
end

