-- ==== Sys2Proof/Machine/Rounds.lean ====
section
/-! DEFINITION. The Round Framer's boundary and what falls due at it, the offering of control packets, and what every
event ends with. -/
namespace Sys2Proof.Machine

/-! ### What every event ends with (log 21) -/

/-- The conditions other blocks read are settled: the role (R27), the election (R34), the pauses (R107). -/
def settle (s : State) : State := settlePause (settleElection (settleRole s))

/-- An event of a powered station: its effect, then the settling. An unpowered station takes nothing (log 9). -/
def event (f : State → State) (s : State) : State := if s.powered then settle (f s) else s

/-! ### The round boundary (R6, R20, log 11) -/

/-- An entry gains a miss, or becomes ABSENT with a departure report at the third (R53). -/
def missEntry (i : StationId) (s : State) : State :=
  let e := s.roster.get i
  let r := s.rollCall.get i
  if i = stationId s ∨ r.inCall = false ∨ r.heard ∨ e.state = .absent then s
  else if e.miss + 1 < 3 then { s with roster := s.roster.set i { e with miss := e.miss + 1 } }
  else
    let t := makeAbsent i s
    { t with map.departures := t.map.departures ++ [i] }

/-- Entries are judged for the round that ends, for stations in turn. -/
def missEntries : List StationId → State → State
  | [], s => s
  | i :: is, s => missEntries is (missEntry i s)

/-- Miss counting, in the states that count (R53). -/
def countMisses (s : State) : State :=
  let s := if takesTables s then missEntries (List.finRange 16) s else s
  { s with rollCall := Bank.fill 16 { inCall := false, heard := false } }

/-- The Lane Map's own work at a boundary (R84 to R86). -/
def mapBoundary (m : LaneMap) : LaneMap :=
  { m with
    boundariesSince := capAdd Config.consecutiveBoundaries m.boundariesSince 1
    mismatch := m.mismatch.mapIdx fun i run => if m.compared.get i then run else 0
    compared := Bank.fill 16 false
    stray := 0 }

/-- LEARNING becomes JOINING at the boundary after its success; otherwise the boundary is counted (R56, R57, log 34). -/
def learnBoundary (s : State) : State :=
  if s.station.state ≠ .learning then s
  else if s.progress.learned ∧ 3 ≤ s.progress.learnBoundaries then
    setStation .joining { s with progress := noProgress s.progress.lastView }
  else { s with progress.learnBoundaries := s.progress.learnBoundaries + 1 }

/-- A boundary in JOINING after the cut-in is counted for the joining timeout (R57, R59, R60). -/
def joinBoundary (s : State) : State :=
  if s.station.state = .joining ∧ s.trunk.switch = .inline ∧ s.progress.emptyTrunk = false then
    { s with progress.joinBoundaries := capAdd Config.joiningBoundaries s.progress.joinBoundaries 1 }
  else s

/-- The first boundary after the station became JOINED turns the presence word on (R52). -/
def presenceBoundary (s : State) : State := { s with progress.presenceOn := delivers s }

/-- The work that every block ties to the boundary, on the round that ends (R20, log 11). A role that this work ends is
gone at once, so a pending snapshot shows it ended (R27, R185). -/
def boundaryWork (s : State) : State :=
  let s := countMisses (lowerTroubleHold (guardBoundary s))
  let s := { s with map := mapBoundary s.map }
  let s := presenceBoundary (learnBoundary (joinBoundary s))
  let s := endLeavingIfTaken (leaveClosing (carryOutCloses s))
  settleRole (reofferWaiting (completeEmptyAttempts s))

/-- The Round Framer begins the next round as reckoned, and pacing counts anew in it; after two predicted rounds of a
station that expects a MARK none follows, and what the station sent in the last framed round still counts (R6, R11, R32,
log 10, log 76). -/
def beginReckoned (s : State) : State :=
  if expects s && 2 ≤ s.tb.missed then { s with framer.opening := .closed }
  else
    { s with
      framer.round := succWrap Config.roundNumbers s.framer.round
      framer.start := s.framer.start + s.framer.period
      framer.position := .mark
      framer.opening := .reckoned
      trunk.pace := Pace.fresh }

/-- The Round Framer declares a round boundary: the work on the round that ends, the next round, and last a pending
snapshot (R6, R185). -/
def declareBoundary (s : State) : State := takePendingSnapshot (beginReckoned (boundaryWork s))

/-- The boundary that a new round's number implies, where it was not declared before (log 10). -/
def impliedBoundary (round : Nat) (s : State) : State :=
  if s.framer.framed ∧ s.framer.opening = .begun ∧ s.framer.round ≠ round then declareBoundary s else s

/-- The presence word goes on at the boundary that turns the trunk FRAMED, unless the round it begins is the one in which
the station became JOINED (R52, log 10). -/
def presenceAtFraming (round : Nat) (s : State) : Bool :=
  delivers s && (s.progress.presenceOn || (s.roster.get (stationId s)).joinedRound != some round)

/-- The boundary at the start of the round that turns the trunk FRAMED (R6, log 10). It ends no framed round, so nothing
of an older one is judged: no roll call, no comparison, no stray (R53, R84, R85), and the guard's interval is carried
(R155). The other work of a boundary is done: the pacing and the trouble hold, the boundary since the last resync, the
presence word, attempts without a candidate, packets refused admission (R11, R15, R52, R86, R100, R160). -/
def framingBoundary (round : Nat) (s : State) : State :=
  let s := lowerTroubleHold (carryInterval .framed s)
  reofferWaiting (completeEmptyAttempts { s with
    rollCall := Bank.fill 16 { inCall := false, heard := false }
    map := mapBoundary { s.map with compared := Bank.fill 16 false }
    trunk.pace := Pace.fresh
    progress.presenceOn := presenceAtFraming round s })

/-- A round that opens after the boundary of a last reckoned one begins the count of pacing; any other round began it at
its own boundary (R11, log 76). -/
def resumePacing (s : State) : State :=
  if s.framer.opening = .closed then { s with trunk.pace := Pace.fresh } else s

/-- The round opens by its MARK: FRAMED, with the MARK's number, time and period. A MARK of the round already begun keeps
the round's position (R6, R31, log 37). A trunk that turns FRAMED has the boundary of that round (R6). -/
def openRound (round start period : Nat) (s : State) : State :=
  let s := if s.framer.framed then resumePacing s else framingBoundary round s
  { s with framer :=
    { framed := true, round := round, period := period, start := start
      position := if s.framer.framed ∧ s.framer.round = round then s.framer.position else .mark
      opening := .begun } }

/-! ### Offering control packets (R11, R13) -/

/-- The pacing rule lets the station offer (R11). -/
def paceAllows (s : State) : Bool :=
  let p := s.trunk.pace
  !p.sent || (!s.framer.framed && (p.heard || 3 ≤ p.gaps))

/-- The station may offer at an opportunity (R13). -/
def mayOffer (s : State) : Bool :=
  mayTransmit s && guardLetsSend s && paceAllows s && s.trunk.sending.isNone

/-- The packet of an entry as it starts now, with the fields filled at the start (R13, R34, R39, R41). Where the Round Framer
never began a round, an election's TAKEOVER adds one to the reset value 0: the model's choice (log 102). -/
def entryPacket (e : QueueEntry) (s : State) : Packet :=
  match e with
  | .claim _ c => .claim c
  | .release _ r => .release r
  | .join j => .join j
  | .leave l => .leave l
  | .handoff source successor =>
    .handoff { source := source, successor := successor, lastRound := s.framer.round }
  | .takeover true station rank =>
    .takeover { station := station, rank := rank, time := s.clock.rack, period := ownPeriod s, epoch := 0,
                nextRound := 0 }
  | .takeover false station rank =>
    .takeover { station := station, rank := rank, time := s.clock.rack, period := periodOrOwn s
                epoch := s.map.epoch, nextRound := succWrap Config.roundNumbers s.framer.round }

/-- The candidate of the lower class priority: the queue's head, or the pending TRIGGER (R13). -/
def candidate (s : State) : Option (Packet × Option QueueEntry × ArbClass) :=
  let trigger := s.trig.pendingTrigger.map fun t => (Packet.trigger t, (none : Option QueueEntry), ArbClass.trigger)
  match s.trunk.queue.head? with
  | none => trigger
  | some e =>
    if classCode (entryClass e) < classCode .trigger ∨ trigger.isNone then
      some (entryPacket e s, some e, entryClass e)
    else trigger

/-- A control packet has won its opportunity: it counts as sent for pacing (R11). -/
def countSent (s : State) : State := { s with trunk.pace := { sent := true, gaps := 0, heard := false } }

/-- The station offers at an opportunity; a packet that loses arbitration stays where it is (R12, R13). -/
def offer (rival : Option ArbKey) (s : State) : State :=
  if mayOffer s then
    match candidate s with
    | none => s
    | some (p, e, c) =>
      if winsAgainst { cls := c, station := stationId s } rival then countSent (startPacket p e s) else s
  else s

/-- The opportunity falls within the 64 ticks before the MARK that a TAKEOVER or HANDOFF made the station expect; after a
miss that MARK is expected a period later (R10, R32, log 36). -/
def skipsOpportunity (s : State) : Bool :=
  s.tb.expected.isSome && missTime s ≤ s.clock.rack + Config.quietGap && s.clock.rack ≤ missTime s

/-- The pair is free at a position: no packet on it, the station's own included (R8). -/
def pairFree (pair : PairAt) (s : State) : Bool := !pair.busy && s.trunk.sending.isNone

/-- The key of this station's positional packets. -/
def positionalKey (s : State) : ArbKey := { cls := .positional, station := stationId s }

/-! ### The end of a packet -/

/-- The own packet in flight did not pass read-back: a MARK counts as unsent, a control packet and a TRIGGER keep their
places, the others are lost (R18, R19). -/
def packetLost (s : State) : State :=
  let wasMark := markInFlight s
  let s := endSending s
  if wasMark then markUnsent s else s

end Sys2Proof.Machine
end

