-- ==== Sys2Proof/Machine/FramePort.lean ====
section
/-! DEFINITION. The Frame Port: one request at a time, and what each request does to its channel. -/
namespace Sys2Proof.Machine

/-! ### The port (R169, R172) -/

/-- What a request comes to: its code, what it carries, and the state it leaves. -/
abbrev Decision := FrameCode × FramePayload × State

/-- A refusal, which leaves every field as it was (R172). -/
def refuseRequest (c : FrameCode) (s : State) : Decision := (c, .nothing, s)

/-- A request that carries nothing further. -/
def answerRequest (c : FrameCode) (s : State) : Decision := (c, .nothing, s)

/-- A request is taken while the port is IDLE and decided at its taking; any other request is not taken (R169, R171).
The three bytes are those of Table 11-12 that name the request. -/
def frameRequest (kind channel offset : Byte) (decide : State → Decision) (s : State) : State :=
  if s.powered && s.frame = .idle then
    let d := decide s
    { d.2.2 with frame := .answered { kind := kind, channel := channel, offset := offset, code := d.1, payload := d.2.1 } }
  else s

/-- A request for a channel (Table 11-11). -/
def channelRequest (kind : Nat) (ch : Channel) (decide : State → Decision) (s : State) :
    Host.Outcome State Fault Refusal :=
  .next (frameRequest (byteOf kind) (byteOf ch.val) 0 decide s)

/-- The definitions are loaded: neither SETUP nor SETUP-FAULT (R119, R133, R174). -/
def definitionsLoaded (s : State) : Bool := setupEnded s

/-! ### PUSH (R96, R97) -/

/-- The channel takes a PUSH (R96). -/
def takesPush (c : OutChannel) : Bool :=
  (isOpenState c.state || c.state = .lost) && !c.drain && !c.closePending

/-- The entry of a word pushed now (R96). -/
def queuedWord (w : Word) (s : State) : QueuedWord :=
  { word := w, time := s.clock.rack, lock := if s.tb.lock = .locked then .locked else .unlockedTime }

/-- The channel after a word was appended (R96). -/
def appendWord (e : QueuedWord) (c : OutChannel) : OutChannel :=
  { c with queue := c.queue ++ [e], accepted := capAdd Config.counter48Max c.accepted 1 }

/-- The channel after its oldest entry was dropped (R97). -/
def dropOldest (c : OutChannel) : OutChannel :=
  { c with queue := c.queue.drop 1, discarded := capAdd Config.counter48Max c.discarded 1, dropped := true }

/-- The channel after a word was refused (R97). -/
def refuseWord (c : OutChannel) : OutChannel :=
  { c with refused := capAdd Config.counter48Max c.refused 1, dropped := true }

/-- PUSH, decided (R96, R97). -/
def decidePush (ch : Channel) (w : Word) (s : State) : Decision :=
  let c := s.out.get ch
  if !takesPush c then refuseRequest .refusedState s
  else if c.queue.length < Config.outboundEntries then
    answerRequest .done (setOut ch (appendWord (queuedWord w s) c) s)
  else
    match c.defn.policy with
    | .dropNew => answerRequest .full (setOut ch (refuseWord c) s)
    | .dropOld => answerRequest .done (setOut ch (appendWord (queuedWord w s) (dropOldest c)) s)

/-- PUSH (R96). -/
def execPush (ch : Channel) (w : Word) (s : State) : Host.Outcome State Fault Refusal :=
  channelRequest 1 ch (decidePush ch w) s

/-! ### Opening and closing outbound channels (R99, R108) -/

/-- OPEN-OUT is taken (R99). A CONFLICT channel with both lists empty takes it, also where its slots were lost before their
RELEASE is taken: the model's choice (log 81). -/
def takesOpen (c : OutChannel) (s : State) : Bool :=
  s.station.state = .joined
    && (c.state = .closed || c.state = .failed || (c.state = .conflict && c.slots.isEmpty && c.claims.isEmpty))

/-- OPEN-OUT, decided (R99). -/
def decideOpenOut (ch : Channel) (s : State) : Decision :=
  if !takesOpen (s.out.get ch) s then refuseRequest .refusedState s
  else if !(attemptLists ch s).isEmpty && !roomForOrdinary s then refuseRequest .busy s
  else answerRequest .started (openChannel ch s)

/-- OPEN_OUT (R99). -/
def execOpenOut (ch : Channel) (s : State) : Host.Outcome State Fault Refusal :=
  channelRequest 2 ch (decideOpenOut ch) s

/-- A close pending is set, and carried out at once on an unframed trunk (R108). -/
def setClosePending (ch : Channel) (s : State) : State :=
  let s := modifyOut ch (fun c => { c with closePending := true }) s
  if s.framer.framed then s else carryOutClose ch s

/-- A CONFLICT channel closes: at once with empty lists, otherwise when its RELEASE is taken (R108). One that holds no slot
but still has a CLAIM on the trunk is CLOSING too, STARTED: the model's choice (log 80). -/
def closeConflict (ch : Channel) (s : State) : Decision :=
  let c := s.out.get ch
  if c.slots = [] ∧ c.claims = [] then answerRequest .done (becomeClosed ch s)
  else answerRequest .started
    (modifyOut ch (fun c => { c with state := .closing, closingTo := some .closed, closePending := false }) s)

/-- A CLOSE-NOW of a FAILED or CONFLICT channel: with the drain flag set it sets close pending, otherwise the channel's row
of the table acts (R108). -/
def closeUnlessDraining (ch : Channel) (row : State → Decision) (s : State) : Decision :=
  if (s.out.get ch).drain then answerRequest .started (setClosePending ch s) else row s

/-- CLOSE-NOW, decided (R108). -/
def decideCloseNow (ch : Channel) (s : State) : Decision :=
  let c := s.out.get ch
  if c.closePending then refuseRequest .refusedState s
  else
    match c.state with
    | .opened => answerRequest .started (setClosePending ch s)
    | .openShort => answerRequest .started (setClosePending ch s)
    | .paused => answerRequest .started (setClosePending ch s)
    | .opening => answerRequest .started (setClosePending ch (withdrawClaims ch s))
    | .lost => answerRequest .done (becomeClosed ch s)
    | .failed => closeUnlessDraining ch (fun s => answerRequest .done (becomeClosed ch s)) s
    | .conflict => closeUnlessDraining ch (closeConflict ch) s
    | .closing => refuseRequest .refusedState s
    | .closed => refuseRequest .refusedState s

/-- CLOSE_NOW (R108). -/
def execCloseNow (ch : Channel) (s : State) : Host.Outcome State Fault Refusal :=
  channelRequest 3 ch (decideCloseNow ch) s

/-- The drain flag is set (R108, R109). -/
def setDrain (ch : Channel) (s : State) : Decision :=
  answerRequest .started (modifyOut ch (fun c => { c with drain := true }) s)

/-- CLOSE-DRAIN, decided (R108). -/
def decideCloseDrain (ch : Channel) (s : State) : Decision :=
  let c := s.out.get ch
  if c.drain then refuseRequest .refusedState s
  else if c.closePending then refuseRequest .refusedState s
  else
    match c.state with
    | .opened => if c.queue.isEmpty then decideCloseNow ch s else setDrain ch s
    | .openShort => if c.queue.isEmpty then decideCloseNow ch s else setDrain ch s
    | .paused => if c.queue.isEmpty then decideCloseNow ch s else setDrain ch s
    | .lost => if c.queue.isEmpty then decideCloseNow ch s else setDrain ch s
    | _ => decideCloseNow ch s

/-- CLOSE_DRAIN (R109). -/
def execCloseDrain (ch : Channel) (s : State) : Host.Outcome State Fault Refusal :=
  channelRequest 4 ch (decideCloseDrain ch) s

/-! ### Inbound channels (R119, R128, R129) -/

/-- The holder the station's map gives for a stream, while the station is in the rack (R119, R129). -/
def knownHolder (n : Stream) (s : State) : Option StationId :=
  if inRack s then streamHolder s.map.entries n else none

/-- RECEIVING from a known holder, WAITING without one (R119, R129). -/
def followHolder (c : InChannel) (s : State) : InChannel :=
  match knownHolder c.defn.stream s with
  | some h => { c with state := .receiving, holder := some h }
  | none => { c with state := .waiting, holder := none }

/-- OPEN-IN, decided (R119). -/
def decideOpenIn (ch : Channel) (s : State) : Decision :=
  let c := s.inb.get ch
  if c.state = .closed ∧ definitionsLoaded s then
    answerRequest .done (setIn ch (followHolder { InChannel.initial with defn := c.defn } s) s)
  else refuseRequest .refusedState s

/-- OPEN_IN (R119). -/
def execOpenIn (ch : Channel) (s : State) : Host.Outcome State Fault Refusal := channelRequest 5 ch (decideOpenIn ch) s

/-- The channel after CLOSE-IN (R119). The holders, the expected tag, the last tag and the end seen stay as well: the
model's choice (log 25, log 82). -/
def closedIn (c : InChannel) : InChannel :=
  { c with
    state := .closed, hold := none, pendingFlags := PendingFlags.empty, timeStep := false
    heldDrop := 0, window := Window.initial }

/-- CLOSE-IN, decided (R119). -/
def decideCloseIn (ch : Channel) (s : State) : Decision :=
  let c := s.inb.get ch
  if c.state = .closed then refuseRequest .refusedState s else answerRequest .done (setIn ch (closedIn c) s)

/-- CLOSE_IN (R119). -/
def execCloseIn (ch : Channel) (s : State) : Host.Outcome State Fault Refusal :=
  channelRequest 6 ch (decideCloseIn ch) s

/-- HOLD-IN, decided (R128). -/
def decideHoldIn (ch : Channel) (s : State) : Decision :=
  let c := s.inb.get ch
  if c.state = .waiting ∨ c.state = .receiving then
    answerRequest .done (setIn ch { c with state := .held, heldDrop := 0 } s)
  else refuseRequest .refusedState s

/-- HOLD_IN (R128). -/
def execHoldIn (ch : Channel) (s : State) : Host.Outcome State Fault Refusal := channelRequest 7 ch (decideHoldIn ch) s

/-- RESUME-IN, decided (R129). -/
def decideResumeIn (ch : Channel) (s : State) : Decision :=
  let c := s.inb.get ch
  if c.state = .held then answerRequest .done (setIn ch (followHolder (settleHold c) s) s)
  else refuseRequest .refusedState s

/-- RESUME_IN (R129). -/
def execResumeIn (ch : Channel) (s : State) : Host.Outcome State Fault Refusal :=
  channelRequest 8 ch (decideResumeIn ch) s

/-! ### Windows (R146) -/

/-- The window ARM-IN leaves (R146). -/
def armedWindow (start : WindowStart) (stop : WindowStop) : Window :=
  { Window.initial with state := .armed, start := some start, stop := some stop }

/-- ARM-IN, decided: the state's refusal comes before the range's (R146). -/
def decideArmIn (ch : Channel) (start : WindowStart) (stop : WindowStop) (s : State) : Decision :=
  let c := s.inb.get ch
  if c.state = .closed ∨ c.window.state = .armed ∨ c.window.state = .capturing then refuseRequest .refusedState s
  else if !armInRange start stop then refuseRequest .refusedRange s
  else answerRequest .done (setIn ch { c with window := armedWindow start stop } s)

/-- ARM_IN (R146). -/
def execArmIn (ch : Channel) (start : WindowStart) (stop : WindowStop) (s : State) :
    Host.Outcome State Fault Refusal :=
  channelRequest 9 ch (decideArmIn ch start stop) s

/-- DISARM-IN, decided (R146). -/
def decideDisarmIn (ch : Channel) (s : State) : Decision :=
  let c := s.inb.get ch
  if c.state = .closed then refuseRequest .refusedState s
  else answerRequest .done (setIn ch { c with window := Window.initial } s)

/-- DISARM_IN (R146). -/
def execDisarmIn (ch : Channel) (s : State) : Host.Outcome State Fault Refusal :=
  channelRequest 10 ch (decideDisarmIn ch) s

/-! ### Reading (R116, R133, R174) -/

/-- READ-DELIVERY, decided (R133). -/
def decideReadDelivery (ch : Channel) (s : State) : Decision :=
  let c := s.inb.get ch
  if !definitionsLoaded s then refuseRequest .refusedState s
  else
    match c.log with
    | [] => refuseRequest .empty s
    | d :: rest => (.done, .delivery d, setIn ch { c with log := rest } s)

/-- READ_DELIVERY (R133). -/
def execReadDelivery (ch : Channel) (s : State) : Host.Outcome State Fault Refusal :=
  channelRequest 11 ch (decideReadDelivery ch) s

/-- READ-MEMORY, decided (R116). -/
def decideReadMemory (page offset : Byte) (count : BitVec 16) (s : State) : Decision :=
  if memoryInRange page offset count then
    (.done, .words (readWords s.mem (page.toNat * Config.pageWords + offset.toNat) count.toNat), s)
  else refuseRequest .refusedRange s

/-- READ_MEMORY (R116). Its result names the page and the offset in place of a channel (R172). -/
def execReadMemory (page offset : Byte) (count : BitVec 16) (s : State) : Host.Outcome State Fault Refusal :=
  .next (frameRequest 12 page offset (decideReadMemory page offset count) s)

/-! ### The pair's reader (R126, R127) -/

/-- An open PAIR channel. -/
def isOpenPair (c : InChannel) : Bool := c.state != .closed && c.defn.mode = .pair

/-- The descriptor of a half; a half that is latest has one (R125). -/
def halfDesc (c : InChannel) (h : Fin 2) : HalfDesc :=
  (c.descs.get h).getD { tag := 0, time := 0, count := 0, holder := 0 }

/-- TAKE-PAIR, decided (R126). -/
def decideTakePair (ch : Channel) (s : State) : Decision :=
  let c := s.inb.get ch
  if !isOpenPair c then refuseRequest .refusedState s
  else if c.hold.isSome then refuseRequest .busy s
  else
    match c.latest with
    | none => refuseRequest .empty s
    | some h => (.done, .half h (halfDesc c h), setIn ch { c with hold := some h } s)

/-- TAKE_PAIR (R126). -/
def execTakePair (ch : Channel) (s : State) : Host.Outcome State Fault Refusal :=
  channelRequest 13 ch (decideTakePair ch) s

/-- RETURN-PAIR, decided (R127). -/
def decideReturnPair (ch : Channel) (s : State) : Decision :=
  let c := s.inb.get ch
  if isOpenPair c ∧ c.hold.isSome then answerRequest .done (setIn ch { c with hold := none } s)
  else refuseRequest .refusedState s

/-- RETURN_PAIR (R127). -/
def execReturnPair (ch : Channel) (s : State) : Host.Outcome State Fault Refusal :=
  channelRequest 14 ch (decideReturnPair ch) s

/-! ### Reading channels (R174) -/

/-- READ-CHANNEL, decided (R174). -/
def decideReadChannel (d : Direction) (ch : Channel) (s : State) : Decision :=
  if !definitionsLoaded s then refuseRequest .refusedState s
  else
    match d with
    | .outbound => (.done, .outbound (outView (s.out.get ch)), s)
    | .inbound => (.done, .inbound (inView (s.inb.get ch)), s)

/-- READ_CHANNEL (R174). -/
def execReadChannel (d : Direction) (ch : Channel) (s : State) : Host.Outcome State Fault Refusal :=
  channelRequest 15 ch (decideReadChannel d ch) s

/-! ### Requests that fail decoding, and the collection (R169, R170) -/

/-- A request that fails decoding reaches no block (R170). A frame that does decode is a request of its own kind and is
not this command (log 29). A kind or channel byte that the frame lacks is 0 in the result: the model's choice (log 94). -/
def execUnknownFrameRequest (frame : List Byte) (s : State) : Host.Outcome State Fault Refusal :=
  .next (if (decodeFrameRequest frame).isSome then s
    else frameRequest (byteAt frame 0) (byteAt frame 1) 0 (refuseRequest .refusedRange) s)

/-- The port holds a result that waits to be collected. -/
def hasResult (s : State) : Bool :=
  match s.frame with
  | .answered _ => true
  | _ => false

/-- RESULT_COLLECTED (R169). -/
def execResultCollected (s : State) : Host.Outcome State Fault Refusal :=
  .next (if s.powered && hasResult s then { s with frame := .idle } else s)

end Sys2Proof.Machine
end

