-- ==== Sys2Proof/Machine/Receive.lean ====
section
/-! DEFINITION. The packets the station takes, kind by kind, and the packets that fail their check. -/
namespace Sys2Proof.Machine

/-! ### Failed packets (R4, R5, R121) -/

/-- The SAMPLE is in the slot its holder holds for its stream, in the round now begun (R81). -/
def sampleMatches (p : Sample) (s : State) : Bool :=
  heldFor p.holder p.stream (slotEntry s.map ⟨p.lane, phaseOf s.framer.round⟩)

/-- A SAMPLE reaches the Inbound Engine (R5, R85, R121). -/
def sampleTaken (p : Sample) (failed : Bool) (s : State) : State :=
  if s.framer.framed && inRack s then
    if sampleMatches p s then
      if delivers s then deliverSample p failed s else eachChannel (showHolder p) s
    else if failed then s
    else countStray s
  else s

/-- A packet of another station failed its check: a LINE report, and a SAMPLE that failed its CRC-16 alone is handed on
(R4). It counts as a whole packet only then (log 14). -/
def hearFailed (h : Heard) (s : State) : State :=
  match h with
  | .failedSample p => sampleTaken p true (report .line (packetEnded true s))
  | .discarded => report .line (packetEnded false s)
  | .passed _ => s

/-- A packet is heard: the own one at its read-back, another station's if its fields are in range, and otherwise a
packet that failed its check (R4, R5, R18). -/
def hear (p : Packet) (own : Option QueueEntry → State → State) (other : State → State) (s : State) : State :=
  if isOwn p s then own (sendingEntry s) (passReadBack s)
  else if packetInRange p then other (packetEnded true s)
  else hearFailed .discarded s

/-! ### MARK (R29 to R31, R37) -/

/-- The roster-view check of a JOINED follower (R61): of every MARK, also a late one or a second source's, whose round
follows one in which the own word passed read-back (log 41). -/
def checkView (m : Mark) (s : State) : State :=
  if s.station.state = .joined
      ∧ predWrap Config.roundNumbers m.round ∈ s.progress.ownWordRounds then
    if m.view.getLsbD (stationId s).val then { s with station.viewOmissions := 0 }
    else if s.station.viewOmissions = 0 then { s with station.viewOmissions := 1 }
    else raiseRejoin { s with station.viewOmissions := 0 }
  else s

/-- A LISTENING station may start to learn at the MARK (R55). -/
def mayLearn (m : Mark) (s : State) : Bool := s.tb.lock = .locked || s.tb.lock = .acquiring || m.quality = .own

/-- What a valid MARK does outside the Timebase Unit and the Round Framer: the end of an empty-trunk attempt, the Lane
Map, the start of learning, the roster-view check (R31, R42, R55, R61). An empty-trunk attempt is abandoned before the
epoch test, so the station is LISTENING and no test is made: the model's choice (log 48); nor is the MARK that abandons it
tested for the start of learning: the model's choice (log 89). At one MARK the epoch test comes before the roster-view check:
the model's choice (log 56). -/
def handOnMark (m : Mark) (s : State) : State :=
  let s := { s with progress.lastView := m.view }
  if s.station.state = .listening then if mayLearn m s then enterLearning m s else s
  else if s.station.state = .joining ∧ s.progress.emptyTrunk then abandonEmptyTrunk s
  else checkView m (mapTakesMark m s)

/-- The designation after a valid MARK, with the source-adopted report on a change (R30, R31). -/
def adoptSource (j : StationId) (s : State) : State :=
  if s.tb.designated = some j then s
  else sourceAdopted j (designate (some j) ((rosterRank j s).getD Config.noRank) s)

/-- A follower takes a valid MARK (R31). -/
def follow (m : Mark) (received : Nat) (s : State) : State :=
  let s := adoptSource m.source (correct m.time received (impliedBoundary m.round s))
  let s := openRound m.round m.time m.period s
  let s := cancelElection { s with
    tb.period := m.period, tb.lastMark := m.time, tb.timeoutBase := m.time, tb.missed := 0, tb.expected := none
    tb.orphan := false, tb.lastQuality := some m.quality }
  handOnMark m (restartListen s)

/-- A source takes another station's MARK (R37): it yields to a better key, and otherwise only remembers it (R29). Only the
latest is kept, where several other stations mark: the model's choice (log 87). -/
def sourceTakesMark (m : Mark) (received : Nat) (s : State) : State :=
  if betterKey (rankOf m.source s) m.source (ownRank s) (stationId s) then
    follow m received (passRole m.source ((rosterRank m.source s).getD Config.noRank) m.time s)
  else { s with tb.otherMark := some (m.source, received) }

/-- Another station's MARK (R30, R37). -/
def otherMarkTaken (m : Mark) (received : Nat) (s : State) : State :=
  if beforeListening s then s
  else if s.tb.role then sourceTakesMark m received s
  else if markValid m.source s then follow m received s
  else s

/-- The own MARK at read-back, while the station is source or counts misses from its own MARKs (R29, R32, log 20). The
reference quality recorded stays that of the last MARK followed: the model's choice (log 95). -/
def ownMarkTaken (m : Mark) (s : State) : State :=
  if !s.tb.role && !s.tb.orphan then s
  else { s with tb.unsent := 0, tb.lastSent := m.time, tb.lastMark := m.time, tb.timeoutBase := m.time, tb.missed := 0 }

/-! ### TAKEOVER (R35, R36, R42) -/

/-- Another station's TAKEOVER is taken (R35): the sender is designated and its MARK expected. The rank recorded is the
TAKEOVER's, as R35 says, also where the Roster holds another, as R30 says: the model's choice (log 49). An empty-trunk
attempt is abandoned before the epoch test: the model's choice (log 48). A former source that is still FRAMED stays so and goes
on by prediction toward the expected MARK: the model's choice (log 71). -/
def takeoverTaken (t : Takeover) (received : Nat) (s : State) : State :=
  let s := designate (some t.station) t.rank.val s
  let s := cancelElection { s with
    tb.period := t.period, tb.orphan := false, tb.missed := 0
    tb.expected := some { time := received + t.period, round := t.nextRound }, tb.timeoutBase := received }
  let s := restartListen (sourceAdopted t.station s)
  epochTest t.epoch (abandonEmptyTrunk s)

/-- Another station's TAKEOVER, by this station's designation (R35). In SETUP the blocks hold their values (R179) and in
SETUP-FAULT no packet is taken (R181); READY takes it (log 35). A station that designates itself without the role ignores
it until its MARK is overdue, as it does for another source: the model's choice (log 70). -/
def otherTakeover (t : Takeover) (received : Nat) (s : State) : State :=
  if !setupEnded s || s.tb.role then s
  else if s.tb.designated.isSome then
    if overdue s then takeoverTaken t received (declareLoss s) else s
  else takeoverTaken t received s

/-- The own empty-trunk TAKEOVER passes read-back: JOINED with a Roster that holds the station alone, then the role with
map epoch 0 (R42, R60). Without the conditions of R27 the designation stands as it was: the model's choice (log 69). Stations
and slots entered during the attempt are the model's choice (log 88): the other entries become ABSENT without a departure
report, the slots stay held, and the epoch is 0 all the same. -/
def emptyTrunkTaken (t : Takeover) (s : State) : State :=
  if s.station.state = .joining ∧ s.progress.emptyTrunk then
    let s := becomeJoined 0 { makeAllAbsent (List.finRange 16) s with tb.listen := .idle, map.epoch := 0 }
    if canGainRole s then gainRole { time := t.time + t.period, round := 0 } t.period s else s
  else s

/-- The own TAKEOVER of an election passes read-back (R36). -/
def electionWon (t : Takeover) (s : State) : State :=
  let s := { s with tb.election := .idle }
  if canGainRole s then gainRole { time := t.time + t.period, round := t.nextRound } t.period s
  else designateNone { s with tb.expected := none }

/-- The own TAKEOVER at read-back, by the entry it came from. -/
def ownTakeover (t : Takeover) (e : Option QueueEntry) (s : State) : State :=
  match e with
  | some (.takeover true _ _) => emptyTrunkTaken t s
  | _ => electionWon t s

/-! ### HANDOFF (R39, R40) -/

/-- The expectation a HANDOFF sets (R40). On an UNFRAMED trunk the round last held stands for the current one: the model's
choice (log 68). -/
def handoffMark (h : Handoff) (s : State) : MarkAt :=
  { time := s.framer.start + s.tb.period, round := succWrap Config.roundNumbers h.lastRound }

/-- The successor is another station, or this one without the conditions of R27: it is designated and its MARK expected
(R40). That a station without them expects its own MARK too, and hands on the source-adopted report, is the model's choice
(log 86). The mark timeout is reckoned from the sender's last MARK, and where none of it was taken from the time its own
timeout was reckoned from, such as its TAKEOVER's reception: the model's choice (log 96). -/
def expectSuccessor (j : StationId) (h : Handoff) (s : State) : State :=
  let due := handoffMark h s
  let s := designate (some j) ((rosterRank j s).getD Config.noRank) s
  sourceAdopted j { s with tb.expected := some due, tb.missed := 0 }

/-- A HANDOFF of the designated source (R40). -/
def handoffTaken (h : Handoff) (s : State) : State :=
  match h.successor with
  | none => unframe (designateNone { s with tb.expected := none, tb.missed := 0 })
  | some j =>
    if j = stationId s ∧ canGainRole s then gainRole (handoffMark h s) s.tb.period s else expectSuccessor j h s

/-- Another station's HANDOFF (R40). In SETUP the blocks hold their values (R179) and in SETUP-FAULT no packet is taken
(R181); READY takes it (log 35). -/
def otherHandoff (h : Handoff) (s : State) : State :=
  if setupEnded s && !s.tb.role && s.tb.designated = some h.source then handoffTaken h s else s

/-- The own HANDOFF passes read-back: the role ends for the successor, and the station takes it as any taker (R39). No
miss stands after it, with a successor or without one, as for the other takers: the model's reading (log 19). One that was
queued before the role ended in another way stays in the queue, and its read-back does nothing here: the model's choice
(log 67). -/
def ownHandoff (h : Handoff) (s : State) : State :=
  if !s.tb.role then s
  else
    match h.successor with
    | none => unframe { dropRole s with tb.orphan := false, tb.missed := 0 }
    | some j =>
      let due := handoffMark h s
      let s := passRole j ((rosterRank j s).getD Config.noRank) s.tb.lastSent s
      { s with tb.expected := some due }

/-! ### Presence words (R48, R54) -/

/-- A presence word with this station's own ID that is not its own (R54). -/
def idConflict (s : State) : State :=
  match s.station.state with
  | .listening => enterBlocked .idConflict s
  | .learning => enterBlocked .idConflict s
  | .joining => enterBlocked .idConflict (withdraw .admission s)
  | .joined => enterBlocked .idConflict (withdraw .rejoin s)
  | .leaving => enterBlocked .idConflict (withdraw .rejoin s)
  | _ => s

/-- The entry of a sender after its presence word, or none where the word is ignored (R48). -/
def wordEntry (p : Presence) (s : State) : Option RosterEntry :=
  let e := s.roster.get p.station
  let refreshed := { copyWord p e with state := .present, miss := 0, lastHeard := some s.framer.round }
  match e.state with
  | .absent =>
    if s.station.state = .learning ∧ s.progress.lastView.getLsbD p.station.val then
      some { refreshed with joinedRound := some s.framer.round }
    else none
  | _ => some refreshed

/-- Another station's presence word (R48, R84). -/
def wordTaken (p : Presence) (s : State) : State :=
  if takesTables s then
    match wordEntry p s with
    | none => s
    | some e =>
      let s := setEntry p.station e s
      compareHeld p.station p.held
        { s with rollCall := s.rollCall.modify p.station fun r => { r with heard := true } }
  else s

/-- A presence word that is not this station's own at read-back. -/
def otherWord (p : Presence) (s : State) : State := if p.station = stationId s then idConflict s else wordTaken p s

/-- The own presence word passes read-back (R61). The last three such rounds are kept: no MARK that comes late, after at
most two predicted rounds, opens an older one (R32, log 41). -/
def ownWord (s : State) : State :=
  { s with progress.ownWordRounds := (s.framer.round :: s.progress.ownWordRounds).take 3 }

/-! ### JOIN and LEAVE (R49, R50, R58, R64) -/

/-- The entry of a sender after its JOIN (R49). -/
def joinEntry (j : Join) (s : State) : RosterEntry :=
  { s.roster.get j.station with state := .joining, eligible := j.eligible, rank := j.rank, miss := 0,
                                joinedRound := some s.framer.round }

/-- A JOIN is taken: a sender that was PRESENT has departed first (R49, R78). -/
def joinTaken (j : Join) (s : State) : State :=
  if takesTables s then
    let s := if (s.roster.get j.station).state = .present then departure j.station s else s
    setEntry j.station (joinEntry j s) s
  else s

/-- A JOIN that is not this station's own: one with its ID leaves the own entry, which is not kept from the trunk (R47,
log 17). -/
def otherJoin (j : Join) (s : State) : State :=
  let s := noticeJoinLeave false s
  if j.station = stationId s then
    if takesTables s ∧ (s.roster.get j.station).state = .present then departure j.station s else s
  else joinTaken j s

/-- The own JOIN at read-back (R49, R58). -/
def ownJoin (j : Join) (s : State) : State :=
  let s := noticeJoinLeave false s
  if s.station.state = .joining then becomeJoined s.framer.round (joinTaken j s) else s

/-- A LEAVE is taken (R50, R78). -/
def leaveTaken (i : StationId) (s : State) : State :=
  if takesTables s then departure i (makeAbsent i s) else s

/-- A LEAVE that is not this station's own; one with its ID leaves the own entry (R47, log 17). -/
def otherLeave (l : Leave) (s : State) : State :=
  let s := noticeJoinLeave true s
  if l.station = stationId s then departure l.station s else leaveTaken l.station s

/-- The own LEAVE at read-back (R50, R64). -/
def ownLeave (l : Leave) (s : State) : State :=
  let s := leaveTaken l.station (noticeJoinLeave true s)
  if s.station.state = .leaving then
    let s := { s with progress.ownLeaveTaken := true }
    if s.framer.framed then s else endLeaving s
  else s

/-! ### CLAIM and RELEASE (R75 to R77) -/

/-- Another station's CLAIM (R75). CLAIM, RELEASE, LEAVE and departures are applied after a resync failure too, until the
withdrawal clears the table: the model's choice (log 72). -/
def otherClaim (c : Claim) (s : State) : State := if takesTables s then (applyClaim c s).2 else s

/-- The own CLAIM at read-back, with its outcome (R75, R76). -/
def ownClaim (c : Claim) (e : Option QueueEntry) (s : State) : State :=
  if takesTables s then
    let r := applyClaim c s
    match e with
    | some (.claim ch _) => claimOutcome ch c r.1 r.2
    | _ => r.2
  else s

/-- Another station's RELEASE (R77). -/
def otherRelease (r : Release) (s : State) : State := if takesTables s then freeBy (ofRelease r) s else s

/-- The own RELEASE at read-back (R77, R90, R110). -/
def ownRelease (r : Release) (e : Option QueueEntry) (s : State) : State :=
  if takesTables s then
    let s := freeBy (ofRelease r) s
    match e with
    | some (.release (some ch) _) => ownReleaseTaken ch r s
    | some (.release none _) => reconciliationTaken s
    | _ => s
  else s

/-! ### TRIGGER (R144) -/

/-- The own TRIGGER at read-back: the slot empties (R142, R144). -/
def ownTrigger (t : Trigger) (s : State) : State :=
  if s.trig.pendingTrigger = some t then { s with trig.pendingTrigger := none } else s

/-- Another station's TRIGGER (R144). -/
def otherTrigger (t : Trigger) (s : State) : State :=
  if !inRack s || t.station = stationId s || s.trig.lastSeq.get t.station = some t.sequence then s
  else handTrigger false t { s with trig.lastSeq := s.trig.lastSeq.set t.station (some t.sequence) }

/-! ### The commands -/

/-- TAKE_MARK (R31). -/
def execTakeMark (m : Mark) (received : Nat) (s : State) : Host.Outcome State Fault Refusal :=
  .next (event (hear (.mark m) (fun _ => ownMarkTaken m) (otherMarkTaken m received)) s)

/-- TAKE_TAKEOVER (R35). -/
def execTakeTakeover (t : Takeover) (received : Nat) (s : State) : Host.Outcome State Fault Refusal :=
  .next (event (hear (.takeover t) (ownTakeover t) (otherTakeover t received)) s)

/-- TAKE_HANDOFF (R40). -/
def execTakeHandoff (h : Handoff) (s : State) : Host.Outcome State Fault Refusal :=
  .next (event (hear (.handoff h) (fun _ => ownHandoff h) (otherHandoff h)) s)

/-- TAKE_PRESENCE_WORD (R48). -/
def execTakePresenceWord (p : Presence) (s : State) : Host.Outcome State Fault Refusal :=
  .next (event (hear (.presence p) (fun _ => ownWord) (otherWord p)) s)

/-- TAKE_JOIN (R49). -/
def execTakeJoin (j : Join) (s : State) : Host.Outcome State Fault Refusal :=
  .next (event (hear (.join j) (fun _ => ownJoin j) (otherJoin j)) s)

/-- TAKE_LEAVE (R50). -/
def execTakeLeave (l : Leave) (s : State) : Host.Outcome State Fault Refusal :=
  .next (event (hear (.leave l) (fun _ => ownLeave l) (otherLeave l)) s)

/-- TAKE_CLAIM (R75). -/
def execTakeClaim (c : Claim) (s : State) : Host.Outcome State Fault Refusal :=
  .next (event (hear (.claim c) (ownClaim c) (otherClaim c)) s)

/-- TAKE_RELEASE (R77). -/
def execTakeRelease (r : Release) (s : State) : Host.Outcome State Fault Refusal :=
  .next (event (hear (.release r) (ownRelease r) (otherRelease r)) s)

/-- TAKE_SAMPLE (R121). -/
def execTakeSample (p : Sample) (s : State) : Host.Outcome State Fault Refusal :=
  .next (event (hear (.sample p) (fun _ => sampleTaken p false) (sampleTaken p false)) s)

/-- TAKE_TRIGGER (R144). -/
def execTakeTrigger (t : Trigger) (s : State) : Host.Outcome State Fault Refusal :=
  .next (event (hear (.trigger t) (fun _ => ownTrigger t) (otherTrigger t)) s)

/-- FAILED_PACKET_RECEIVED (R4). -/
def execFailedPacketReceived (heard : List Byte) (s : State) : Host.Outcome State Fault Refusal :=
  .next (event (hearFailed (classify heard)) s)

end Sys2Proof.Machine
end

