-- ==== Sys2Proof/Machine/RoundEvents.lean ====
section
/-! DEFINITION. The events of the round and of the pair: MARKs falling due, the boundary, the positions, the
opportunities, and the faults of transmitter and repeater. -/
namespace Sys2Proof.Machine

/-! ### The MARK of a source (R28, R29) -/

/-- The roster view: the stations the Roster holds PRESENT (R28). -/
def rosterView (s : State) : BitVec 16 :=
  BitVec.ofNat 16 (s.roster.list.foldr (fun e n => (if e.state = .present then 1 else 0) + 2 * n) 0)

/-- The MARK that starts at a due time (R28, R82). -/
def markOf (due : MarkAt) (s : State) : Mark :=
  { source := stationId s, round := due.round, time := due.time, period := s.tb.period, epoch := s.map.epoch
    view := rosterView s, quality := ownQuality s, pageIndex := s.tb.pageCounter
    page := servePage s.map s.tb.pageCounter }

/-- The page counter advances at each start of a MARK (R28). -/
def nextPage (k : Fin 12) : Fin 12 := ⟨(k.val + 1) % 12, by omega⟩

/-- The due time after this one (R28). -/
def nextDue (due : MarkAt) (s : State) : MarkAt :=
  { time := due.time + s.tb.period, round := succWrap Config.roundNumbers due.round }

/-- A due time whose MARK is not sent: the round begins in a framed trunk, and the MARK is unsent (R8, R28, R29). An
unframed trunk stays so, also where the MARK started and lost its arbitration: the model's choice (log 10). -/
def skipMark (due : MarkAt) (s : State) : State :=
  markUnsent (if s.framer.framed then openRound due.round due.time s.tb.period s else s)

/-- The MARK starts: the page counter advances, and the round begins by it; a loss of arbitration leaves it unsent (R12,
R28, R29). -/
def startMark (due : MarkAt) (rival : Option ArbKey) (s : State) : State :=
  let m := markOf due s
  let s := { s with tb.pageCounter := nextPage s.tb.pageCounter }
  if winsAgainst (positionalKey s) rival then startPacket (.mark m) none (openRound due.round due.time s.tb.period s)
  else skipMark due s

/-- A MARK falls due (R28). Where the boundary's judgement ends the role, nothing more is sent (R27). -/
def markFallsDue (pair : PairAt) (s : State) : State :=
  match s.tb.role, s.tb.markDue with
  | true, some due =>
    let s := settleRole (impliedBoundary due.round (waitRack due.time s))
    if s.tb.role then
      let s := { s with tb.markDue := some (nextDue due s) }
      if mayTransmit s && pairFree pair s then startMark due pair.rival s else skipMark due s
    else s
  | _, _ => s

/-- MARK_DUE (R28). -/
def execMarkDue (pair : PairAt) (s : State) : Host.Outcome State Fault Refusal := .next (event (markFallsDue pair) s)

/-! ### The boundary and the positions (R6, R7) -/

/-- The round now begun ends: its boundary comes at its start plus the period (R6, R20, log 10). -/
def boundaryComes (s : State) : State :=
  if s.framer.framed ∧ s.framer.opening = .begun then
    declareBoundary (waitRack (s.framer.start + s.framer.period) s)
  else s

/-- ROUND_BOUNDARY (R20). -/
def execRoundBoundary (s : State) : Host.Outcome State Fault Refusal := .next (event boundaryComes s)

/-- The 8th boundary in JOINING (R59). -/
def joiningTimesOut (s : State) : State :=
  if s.station.state = .joining ∧ s.progress.emptyTrunk = false
      ∧ Config.joiningBoundaries ≤ s.progress.joinBoundaries then
    let s := withdraw .admission s
    if s.station.joinFails + 1 < 3 then
      enterListening { s with station.joinFails := s.station.joinFails + 1 }
    else enterBlocked .joinFail s
  else s

/-- JOINING_TIMEOUT (R59). -/
def execJoiningTimeout (s : State) : Host.Outcome State Fault Refusal := .next (event joiningTimesOut s)

/-- The entries that the roll call of this round judges (R53). -/
def markRollCall (s : State) : State :=
  { s with rollCall := s.rollCall.mapIdx fun i r => { r with inCall := (s.roster.get i).state != .absent } }

/-- The roll call begins: departure reports that awaited it are applied (R53, R78). -/
def rollCallStarts (s : State) : State :=
  if positionComes .rollCallBegin s then markRollCall (applyDepartures (declarePosition .rollCallBegin s)) else s

/-- ROLL_CALL_START (R78). -/
def execRollCallStart (s : State) : Host.Outcome State Fault Refusal := .next (event rollCallStarts s)

/-- The own entry takes the values of the own word as it starts (R47). -/
def ownWordStarts (p : Presence) (s : State) : State :=
  { s with roster := s.roster.modify p.station fun e =>
      { copyWord p e with lastHeard := some s.framer.round } }

/-- A packet that starts together with others goes on only if no better key starts with it (R12). -/
def startAgainst (rival : Option ArbKey) (p : Packet) (s : State) : State :=
  if winsAgainst (positionalKey s) rival then startPacket p none s else s

/-- The presence word starts, unless it is not due or its position is lost; it may still lose to a better key that starts
with it (R8, R12, R47, R52). -/
def sendPresence (pair : PairAt) (s : State) : State :=
  if delivers s && s.progress.presenceOn && mayTransmit s && pairFree pair s then
    let p := presenceWord s
    startAgainst pair.rival (.presence p) (ownWordStarts p s)
  else s

/-- The own roll-call position begins (R7, R52). -/
def ownPositionBegins (pair : PairAt) (s : State) : State :=
  if positionComes (.rollCall (stationId s)) s then
    sendPresence pair (declarePosition (.rollCall (stationId s)) s)
  else s

/-- ROLL_CALL_POSITION (R52). -/
def execRollCallPosition (pair : PairAt) (s : State) : Host.Outcome State Fault Refusal :=
  .next (event (ownPositionBegins pair) s)

/-- A lane whose slot is this station's own: the channel bound to it builds and starts its SAMPLE (R8, R104). A SAMPLE
that then loses to a better key is spent with its words, its tag and its notes, as R106 says of any that starts; that R12's
"keeps its packet" does not bring it back is the model's choice (log 51). -/
def sendInLane (l : Lane) (pair : PairAt) (s : State) : State :=
  let slot : Slot := ⟨l, phaseOf s.framer.round⟩
  if heldBy (stationId s) (slotEntry s.map slot) then
    match channelOf s slot with
    | some ch =>
      if channelMaySend ch s && pairFree pair s then
        startAgainst pair.rival (.sample (sampleOf ch l s)) (spendSample ch s)
      else s
    | none => s
  else s

/-- A lane begins (R7, R104). -/
def laneBegins (l : Lane) (pair : PairAt) (s : State) : State :=
  if positionComes (.lane l) s then sendInLane l pair (declarePosition (.lane l) s) else s

/-- LANE_START (R104). -/
def execLaneStart (l : Lane) (pair : PairAt) (s : State) : Host.Outcome State Fault Refusal :=
  .next (event (laneBegins l pair) s)

/-! ### Opportunities (R9, R10, R13) -/

/-- An opportunity of the open window (R9, R13). R8 holds a positional packet back while another packet is on the pair and
no rule says so of an opportunity, so the station offers whatever the pair carries: the model's choice (log 52). -/
def windowOpens (k : Fin 4) (rival : Option ArbKey) (s : State) : State :=
  if positionComes (.window k) s then offer rival (declarePosition (.window k) s) else s

/-- CONTENTION_OPPORTUNITY (R13). -/
def execContentionOpportunity (k : Fin 4) (rival : Option ArbKey) (s : State) : Host.Outcome State Fault Refusal :=
  .next (event (windowOpens k rival) s)

/-- The quiet gap has run: the next is measured from its end, and pacing counts it (R10, R11). -/
def gapRuns (s : State) : State :=
  let s := waitTicks (s.trunk.gapStart + Config.quietGap) s
  { s with
    trunk.gapStart := s.trunk.gapStart + Config.quietGap
    trunk.pace.gaps := s.trunk.pace.gaps + 1
    trunk.repeaterOff := false }

/-- A quiet gap ends on an unframed trunk: attempts without a candidate complete, refused packets are offered to the
queue again, and the station may offer (R10, R13, R15, R100). That they go in this order, so that a packet admitted here may
be offered here, is the model's choice (log 85). -/
def gapEnds (rival : Option ArbKey) (s : State) : State :=
  if s.framer.framed || s.trunk.sending.isSome then s
  else
    let s := reofferWaiting (completeEmptyAttempts (gapRuns s))
    if skipsOpportunity s then s else offer rival s

/-- QUIET_GAP_END (R10). -/
def execQuietGapEnd (rival : Option ArbKey) (s : State) : Host.Outcome State Fault Refusal :=
  .next (event (gapEnds rival) s)

/-! ### Faults of the own transmitter and of the repeater (R18, R19) -/

/-- The own packet fails its read-back (R18). -/
def readBackFails (s : State) : State :=
  if s.trunk.sending.isSome then report .echo (packetLost s) else s

/-- READ_BACK_FAILED (R18). -/
def execReadBackFailed (s : State) : Host.Outcome State Fault Refusal := .next (event readBackFails s)

/-- The transmitter is cut off at the drive limit (R19). -/
def driveLimitRuns (s : State) : State :=
  match s.trunk.sending with
  | some x => report .stuck (packetLost (waitTicks (x.startedAt + Config.driveLimit) s))
  | none => s

/-- DRIVE_LIMIT_CUT_OFF (R19). -/
def execDriveLimitCutOff (s : State) : Host.Outcome State Fault Refusal := .next (event driveLimitRuns s)

/-- A repeated signal is cut at the limit; the repeater stays off until the pair has been quiet (R19). A quiet gap is
measured from the cut, though the signal may go on beyond it: the model's choice (log 65). -/
def repeaterCut (s : State) : State :=
  if s.trunk.switch = .inline then
    report .line { s with trunk.repeaterOff := true, trunk.gapStart := s.clock.ticks }
  else s

/-- REPEATER_CUT_OFF (R19). -/
def execRepeaterCutOff (s : State) : Host.Outcome State Fault Refusal := .next (event repeaterCut s)

end Sys2Proof.Machine
end

