-- ==== Sys2Proof/Machine/ServicePort.lean ====
section
/-! DEFINITION. The Service Port: reads, snapshots, the summary and the three commands. -/
namespace Sys2Proof.Machine

/-! ### The port (R183) -/

/-- What a service request comes to. -/
abbrev ServiceDecision := ServiceCode × ServicePayload × State

/-- An answer that carries nothing and leaves every field as it was (R183). -/
def refuseService (c : ServiceCode) (s : State) : ServiceDecision := (c, .nothing, s)

/-- A request is taken while the port is IDLE and decided at its taking (R183). -/
def serviceRequest (kind : Byte) (decide : State → ServiceDecision) (s : State) : State :=
  if s.powered && s.service = .idle then
    let d := decide s
    { d.2.2 with service := .answered { kind := kind, code := d.1, payload := d.2.1 } }
  else s

/-- In SETUP the port takes reads of the setup class and READ-SUMMARY alone (R183). -/
def inSetup (s : State) : Bool := s.station.state = .setup

/-! ### Reads (R184, R186) -/

/-- A channel by its index, 0 beyond the range that was judged before. -/
def indexChannel (i : Byte) : Channel := ⟨i.toNat % 8, by omega⟩

/-- The record of a class as it stands (R184). -/
def liveRecord (c : RecordClass) (i : Byte) (s : State) : Record :=
  match c with
  | .station => .station s.station
  | .roster => .roster (s.roster.get (lowId i))
  | .slot => .slot (s.map.entries.get ⟨i.toNat % 96, by omega⟩)
  | .map => .map (mapRecord s)
  | .timebase => .timebase (timebaseRecord s)
  | .guard => .guard s.guard
  | .outbound => .outbound (outView (s.out.get (indexChannel i)))
  | .inbound => .inbound (inView (s.inb.get (indexChannel i)))
  | .window => .window (s.inb.get (indexChannel i)).window (s.inb.get (indexChannel i)).defn.acceptance
  | .trigger => .trigger (triggerRecord s)
  | .setup => .setup s.setup

/-- The record of a class in a snapshot, for a class the snapshot keeps (R186). -/
def copiedRecord (c : RecordClass) (i : Byte) (x : Snapshot) : Option Record :=
  match c with
  | .roster => some (.roster (x.roster.get (lowId i)))
  | .slot => some (.slot (x.slots.get ⟨i.toNat % 96, by omega⟩))
  | .map => some (.map x.map)
  | .timebase => some (.timebase x.timebase)
  | .guard => some (.guard x.guard)
  | _ => none

/-- A LIVE read, decided (R184). -/
def decideReadLive (c : RecordClass) (i : Byte) (s : State) : ServiceDecision :=
  if inSetup s && c != .setup then refuseService .refusedState s
  else if !indexInRange c i then refuseService .refusedRange s
  else (.done, .live (liveRecord c i s), s)

/-- SERVICE_READ_LIVE (R184). -/
def execServiceReadLive (c : RecordClass) (i : Byte) (s : State) : Host.Outcome State Fault Refusal :=
  .next (serviceRequest 1 (decideReadLive c i) s)

/-- A SNAPSHOT read, decided (R184, R186). In SETUP a read of the setup class is taken, and finds a class the snapshot
does not keep. A class or index that cannot be answered is refused before it is asked whether there is a snapshot: the
model's choice (log 75). -/
def decideReadSnapshot (c : RecordClass) (i : Byte) (s : State) : ServiceDecision :=
  if inSetup s && c != .setup then refuseService .refusedState s
  else if !indexInRange c i || !snapshotKeeps c then refuseService .refusedRange s
  else
    match s.snapshots.copy with
    | none => refuseService .empty s
    | some x =>
      match copiedRecord c i x with
      | some r => (.done, .copied x.round x.time x.framed r, s)
      | none => refuseService .refusedRange s

/-- SERVICE_READ_SNAPSHOT (R186). -/
def execServiceReadSnapshot (c : RecordClass) (i : Byte) (s : State) : Host.Outcome State Fault Refusal :=
  .next (serviceRequest 1 (decideReadSnapshot c i) s)

/-! ### SNAPSHOT and READ-SUMMARY (R185, R187) -/

/-- SNAPSHOT, decided (R185). -/
def decideSnapshot (s : State) : ServiceDecision :=
  if inSetup s then refuseService .refusedState s
  else if s.snapshots.pending then refuseService .busy s
  else if s.framer.framed then (.started, .nothing, { s with snapshots.pending := true })
  else (.done, .nothing, takeSnapshot s)

/-- SNAPSHOT (R185). -/
def execSnapshot (s : State) : Host.Outcome State Fault Refusal := .next (serviceRequest 2 decideSnapshot s)

/-- READ-SUMMARY, decided: the flags are returned and cleared (R187). -/
def decideReadSummary (s : State) : ServiceDecision := (.done, .summary s.flags, { s with flags := 0 })

/-- READ_SUMMARY (R187). -/
def execReadSummary (s : State) : Host.Outcome State Fault Refusal := .next (serviceRequest 3 decideReadSummary s)

/-! ### Commands (R69, R166, R189) -/

/-- A command taken: its change of station state is made at its taking (R189). -/
def takeCommand (s : State) : ServiceDecision := (.done, .nothing, settle s)

/-- A REJOIN from a state that is not inline, or from JOINING (R69). -/
def rejoinNow (s : State) : State := enterListening (withdraw .rejoin s)

/-- The learn and join failure counts become 0 (R69). -/
def clearFailures (s : State) : State := { s with station.learnFails := 0, station.joinFails := 0 }

/-- REJOIN, decided (R69, R189). -/
def decideRejoin (s : State) : ServiceDecision :=
  match s.station.state with
  | .joined => takeCommand (startLeaving .listening s)
  | .joining => takeCommand (rejoinNow s)
  | .listening => takeCommand (rejoinNow (clearFailures s))
  | .learning => takeCommand (rejoinNow (clearFailures s))
  | .parked => takeCommand (rejoinNow (clearFailures s))
  | .blocked => takeCommand (rejoinNow (clearFailures s))
  | _ => refuseService .refusedState s

/-- REJOIN (R69). -/
def execRejoin (s : State) : Host.Outcome State Fault Refusal := .next (serviceRequest 4 decideRejoin s)

/-- LEAVE, decided (R62, R189). -/
def decideLeave (s : State) : ServiceDecision :=
  match s.station.state with
  | .joined => takeCommand (startLeaving .parked s)
  | .joining => takeCommand (enterParked (withdraw .leave s))
  | .listening => takeCommand (enterParked s)
  | .learning => takeCommand (enterParked s)
  | _ => refuseService .refusedState s

/-- LEAVE (R62). -/
def execLeave (s : State) : Host.Outcome State Fault Refusal := .next (serviceRequest 5 decideLeave s)

/-- CLEAR ISOLATION, decided: the guard's latch is released, then the withdrawal of the rejoin kind and LISTENING (R68,
R166). -/
def decideClearIsolation (s : State) : ServiceDecision :=
  if s.station.state = .isolated then takeCommand (rejoinNow (raise .guard { s with guard := clearedGuard s.guard }))
  else refuseService .refusedState s

/-- CLEAR_ISOLATION (R166). -/
def execClearIsolation (s : State) : Host.Outcome State Fault Refusal :=
  .next (serviceRequest 6 decideClearIsolation s)

/-! ### Requests the port does not know, and the end of an answer (R183) -/

/-- A request that is cut short or that the port does not know acts on nothing (R183). A frame that does decode is a
request of its own kind and is not this command (log 29). The answer to a frame cut short before its kind byte names kind 0:
the model's choice (log 94). -/
def execUnknownServiceRequest (frame : List Byte) (s : State) : Host.Outcome State Fault Refusal :=
  .next (if (decodeServiceRequest frame).isSome then s
    else serviceRequest (byteAt frame 0) (refuseService .refusedRange) s)

/-- The port holds an answer that is being sent. -/
def hasAnswer (s : State) : Bool :=
  match s.service with
  | .answered _ => true
  | _ => false

/-- SERVICE_ANSWER_SENT (R183). -/
def execServiceAnswerSent (s : State) : Host.Outcome State Fault Refusal :=
  .next (if s.powered && hasAnswer s then { s with service := .idle } else s)

end Sys2Proof.Machine
end

