-- ==== Sys2Proof/Machine/Setup.lean ====
section
/-! DEFINITION. Power, reset, the setup load, the discrete lines, the reference inputs, the clock's intervals and the
bypass switch. -/
namespace Sys2Proof.Machine

/-! ### Power, reset, the load (R67, R179 to R182) -/

/-- Power-on and the reset input: every block takes its power-on values, the pins stay as they are driven, and a present
reference pair starts an acquisition (R21, R178, R179). The free values drawn before are not drawn again (log 25). -/
def powerUp (s : State) : State :=
  let t := { State.reset with pins := s.pins, pending := s.pending, freeDraws := s.freeDraws }
  if s.pins.trunkRef then setLock .acquiring t else t

/-- A power-up of a part that has or gets its supply. -/
def execPowerOn (s : State) : Host.Outcome State Fault Refusal := .next (powerUp s)

/-- RESET_INPUT (R179); a part without supply takes nothing (log 9). -/
def execResetInput (s : State) : Host.Outcome State Fault Refusal := .next (if s.powered then powerUp s else s)

/-- SUPPLY_LOSS (R1, R67): the relay closes at once and the packet in flight is cut short. -/
def execSupplyLoss (s : State) : Host.Outcome State Fault Refusal :=
  .next { s with powered := false, trunk.switch := .closed, trunk.sending := none }

/-- Entry to READY: the eject line, the start mode and the start line decide (R66, R177, R182). -/
def enterReady (mode : StartMode) (s : State) : State :=
  let s := setStation .ready s
  if s.pins.eject then enterParked s
  else if mode = .auto || s.pins.start then enterListening s
  else s

/-- The image is handed out (R180), and the filtered trigger levels start from the lines (R138). -/
def handOut (image : List Byte) (s : State) : State :=
  { s with
    settings := some (settingsOf image)
    out := s.out.mapIdx fun ch c => { c with defn := outDefOf image ch }
    inb := s.inb.mapIdx fun ch c => { c with defn := inDefOf image ch }
    guard.thresholds := imageThresholds image
    trig.settings := triggerSettingsOf image
    trig.filtered := s.pins.lines }

/-- The end of the load (R180 to R182). The image copy is all zero up to it: the model's choice (log 101). -/
def loadEnds (straps : StationId) (supplied : List Byte) (s : State) : State :=
  if s.setup.outcome = .loading then
    let image := imageOf supplied
    let s := raise .setup { s with setup.id := straps, setup.image := image }
    match setupCheck supplied with
    | some (code, location) =>
      setStation .setupFault { s with
        setup.outcome := .faulted, setup.fault := some code, setup.location := location }
    | none => enterReady (settingsOf image).startMode (handOut image { s with setup.outcome := .good })
  else s

/-- SETUP_LOAD_END (R180). -/
def execSetupLoadEnd (straps : StationId) (supplied : List Byte) (s : State) : Host.Outcome State Fault Refusal :=
  .next (event (loadEnds straps supplied) s)

/-! ### The eject and start lines (R66, R175, R177) -/

/-- What a rise of the eject line does by station state (R66). -/
def ejectRises (s : State) : State :=
  match s.station.state with
  | .ready => enterParked s
  | .listening => enterParked s
  | .learning => enterParked s
  | .blocked => enterParked s
  | .joining => enterParked (withdraw .leave s)
  | .joined => startLeaving .parked s
  | .leaving => { s with station.leaveOutcome := some .parked }
  | _ => s

/-- EJECT_RISE (R66, R175): a rise of a line that is low. -/
def execEjectRise (s : State) : Host.Outcome State Fault Refusal :=
  .next (if s.pins.eject then s else event ejectRises { s with pins.eject := true })

/-- What a fall of the eject line does (R66, R175). -/
def ejectFalls (s : State) : State := if s.station.state = .parked then enterListening s else s

/-- EJECT_FALL (R175): a fall of a line that is high. -/
def execEjectFall (s : State) : Host.Outcome State Fault Refusal :=
  .next (if s.pins.eject then event ejectFalls { s with pins.eject := false } else s)

/-- What a rise of the start line does (R177). -/
def startRises (s : State) : State := if s.station.state = .ready then enterListening s else s

/-- START_LINE_RISE (R177): a rise of a line that is low. -/
def execStartLineRise (s : State) : Host.Outcome State Fault Refusal :=
  .next (if s.pins.start then s else event startRises { s with pins.start := true })

/-- START_LINE_FALL (R177): only the followed level changes. -/
def execStartLineFall (s : State) : Host.Outcome State Fault Refusal := .next { s with pins.start := false }

/-! ### The reference inputs and the intervals of the clock (R21, R25) -/

/-- Drives the presence of a reference input. -/
def setReference (i : RefInput) (present : Bool) (s : State) : State :=
  match i with
  | .trunkPair => { s with pins.trunkRef := present }
  | .houseInput => { s with pins.houseRef := present }

/-- A change of an input acts on the lock state if it is the watched one (R21, R22). -/
def onWatched (i : RefInput) (f : State → State) (s : State) : State :=
  if detectorWatches s ∧ watchedInput s = i then f s else s

/-- REFERENCE_APPEARS (R21). -/
def execReferenceAppears (i : RefInput) (s : State) : Host.Outcome State Fault Refusal :=
  .next (event (onWatched i referenceAppears) (setReference i true s))

/-- REFERENCE_LOST (R21). -/
def execReferenceLost (i : RefInput) (s : State) : Host.Outcome State Fault Refusal :=
  .next (event (onWatched i referenceLost) (setReference i false s))

/-- The running lock interval ends in lock state `next`, if the state is `now` (R21, log 2). -/
def lockIntervalEnds (now next : LockState) (s : State) : State :=
  match s.tb.lockDue with
  | some due => if s.tb.lock = now then setLock next (waitTicks due s) else s
  | none => s

/-- ACQUISITION_COMPLETE (R21). -/
def execAcquisitionComplete (s : State) : Host.Outcome State Fault Refusal :=
  .next (event (lockIntervalEnds .acquiring .locked) s)

/-- HOLDOVER_EXPIRY (R21). -/
def execHoldoverExpiry (s : State) : Host.Outcome State Fault Refusal :=
  .next (event (lockIntervalEnds .holdover .unlocked) s)

/-- RACK_TIME_HOLD_END (R25): the rest of a running hold passes. -/
def execRackTimeHoldEnd (s : State) : Host.Outcome State Fault Refusal :=
  .next (event (fun s => waitTicks s.clock.holdUntil s) s)

/-! ### The bypass switch (R1) -/

/-- What the Membership Controller and the Timebase Unit do at the cut-in report (R41, R57, R60). -/
def cutInReported (s : State) : State :=
  if s.station.state ≠ .joining then s
  else if s.progress.emptyTrunk then
    admitReserved (.takeover true (stationId s) (ownRank s))
      { s with tb.listen := .cutIn (s.clock.rack + Config.listenPeriods * ownPeriod s) }
  else
    offerEntry (.join { station := stationId s, eligible := eligible s, rank := ownRank s })
      { s with progress.joinBoundaries := 0 }

/-- The cut-in (R1, R10, R155). -/
def cutIn (s : State) : State :=
  if s.trunk.switch = .closed ∧ wantedSwitch s = .inline ∧ s.trunk.sending = none then
    cutInReported (cutInInterval { s with
      trunk.switch := .inline, trunk.gapStart := s.clock.ticks, trunk.pace := Pace.fresh })
  else s

/-- CUT_IN (R1). -/
def execCutIn (s : State) : Host.Outcome State Fault Refusal := .next (event cutIn s)

/-- The cut-out (R1, R17, R143, R155). -/
def cutOut (s : State) : State :=
  if s.trunk.switch = .inline ∧ wantedSwitch s = .closed ∧ s.trunk.sending = none then
    cutOutInterval (emptyTriggerSlot { s with
      trunk.switch := .closed, trunk.queue := [], trunk.waiting := [], trunk.pace := Pace.fresh })
  else s

/-- CUT_OUT (R1). -/
def execCutOut (s : State) : Host.Outcome State Fault Refusal := .next (event cutOut s)

end Sys2Proof.Machine
end

