-- ==== Sys2Proof/Machine/Timeouts.lean ====
section
/-! DEFINITION. The timers of the Timebase Unit, the Membership Controller and the Link Guard. A timer that does not run
makes its command do nothing; one that runs lets the ticks up to its due time pass first (log 2). -/
namespace Sys2Proof.Machine

/-- The round of a missed MARK begins by prediction, its boundary being declared with it if it was not before (R6,
R32). -/
def predictRound (s : State) : State :=
  if s.framer.framed then
    let s := if s.framer.opening = .begun then declareBoundary s else s
    { s with framer.opening := .begun }
  else s

/-- The expected MARK is missed (R32). -/
def markMissed (s : State) : State :=
  if expects s ∧ s.tb.missed < 2 then
    let s := predictRound (waitRack (missTime s) s)
    { s with tb.missed := s.tb.missed + 1 }
  else s

/-- MISSED_MARK (R32). -/
def execMissedMark (s : State) : Host.Outcome State Fault Refusal := .next (event markMissed s)

/-- Three periods after the last MARK (R32, R33). -/
def markTimesOut (s : State) : State := if expects s then declareLoss (waitRack (timeoutTime s) s) else s

/-- MARK_TIMEOUT (R32). -/
def execMarkTimeout (s : State) : Host.Outcome State Fault Refusal := .next (event markTimesOut s)

/-- The backoff runs out: a TAKEOVER is queued (R34). -/
def backoffRunsOut (s : State) : State :=
  match s.tb.election with
  | .backoff due =>
    let s := waitRack due s
    admitReserved (.takeover false (stationId s) (ownRank s)) { s with tb.election := .takeoverQueued }
  | _ => s

/-- BACKOFF_EXPIRY (R34). -/
def execBackoffExpiry (s : State) : Host.Outcome State Fault Refusal := .next (event backoffRunsOut s)

/-- Four periods after a source loss: SOURCE is raised if the trunk is still unframed with no source and none expected
(R44). One due time is kept: a later loss replaces it, framing does not cancel it, and the conditions are judged at its end
alone: the model's choice (log 54). -/
def lossAges (s : State) : State :=
  match s.tb.lossDue with
  | some due =>
    let s := waitRack due s
    raiseIf (!s.framer.framed && s.tb.designated.isNone && s.tb.expected.isNone) .source
      { s with tb.lossDue := none }
  | none => s

/-- UNFRAMED_SOURCE_TIMEOUT (R44). -/
def execUnframedSourceTimeout (s : State) : Host.Outcome State Fault Refusal := .next (event lossAges s)

/-- The empty-trunk listen runs out: the station is JOINING at once, and the cut-in is awaited (R41, R60). -/
def listenRunsOut (s : State) : State :=
  match s.tb.listen with
  | .running due =>
    if s.station.state = .listening then
      let s := setStation .joining (waitRack due s)
      { s with
        tb.listen := .ranOut
        progress := { noProgress s.progress.lastView with emptyTrunk := true } }
    else s
  | _ => s

/-- EMPTY_TRUNK_LISTEN_EXPIRY (R41). -/
def execEmptyTrunkListenExpiry (s : State) : Host.Outcome State Fault Refusal := .next (event listenRunsOut s)

/-- The empty-trunk attempt has lasted its time (R42). -/
def attemptTimesOut (s : State) : State :=
  match s.tb.listen with
  | .cutIn due => abandonEmptyTrunk (waitRack due s)
  | _ => s

/-- EMPTY_TRUNK_ATTEMPT_TIMEOUT (R42). -/
def execEmptyTrunkAttemptTimeout (s : State) : Host.Outcome State Fault Refusal := .next (event attemptTimesOut s)

/-- The leaving timeout runs out before the own LEAVE is taken (R65). -/
def leavingTimesOut (s : State) : State :=
  match s.progress.leavingDue with
  | some due =>
    if s.station.state = .leaving ∧ s.progress.ownLeaveTaken = false then
      let s := waitRack due s
      endLeaving { s with station.leaveTimeouts := capAdd 255 s.station.leaveTimeouts 1 }
    else s
  | none => s

/-- LEAVING_TIMEOUT (R65). -/
def execLeavingTimeout (s : State) : Host.Outcome State Fault Refusal := .next (event leavingTimesOut s)

/-- An unframed period of the guard ends: it is judged and a new one begins (R155, R164). -/
def guardPeriodEnds (s : State) : State :=
  match s.guard.interval with
  | .unframed due =>
    if watches s then endInterval .unframed unframedInterval (waitRack due s) else s
  | _ => s

/-- GUARD_PERIOD_END (R155). -/
def execGuardPeriodEnd (s : State) : Host.Outcome State Fault Refusal := .next (event guardPeriodEnds s)

end Sys2Proof.Machine
end

