-- ==== Sys2Proof/Machine/Triggers.lean ====
section
/-! DEFINITION. The Trigger Unit: lines, filter, edges, triggers and blanking. -/
namespace Sys2Proof.Machine

/-- The level of line `i`. -/
def lineLevel (v : BitVec 4) (i : Fin 4) : Bool := v.getLsbD i.val

/-- Lines are watched in every station state except SETUP and SETUP-FAULT (R138). -/
def watchesLines (s : State) : Bool := setupEnded s

/-- Blanking runs (R140). -/
def isBlanking (s : State) : Bool := s.clock.ticks < s.trig.blankUntil

/-- The condition address: the unmasked lines whose filtered level is high (R139). -/
def conditionAddress (t : TriggerUnit) : Fin 16 := (t.filtered &&& ~~~t.settings.mask).toFin

/-- The trigger of an edge (R141). -/
def triggerOf (time : Nat) (s : State) : Trigger :=
  { station := stationId s, sequence := s.trig.nextSeq, time := time, entry := conditionAddress s.trig }

/-- A LOCAL or RACK edge makes a trigger: the sequence advances, blanking starts, and the windows get it at once (R139
to R141). -/
def makeTrigger (t : Trigger) (s : State) : State :=
  handTrigger true t { s with
    trig.lastMade := some t
    trig.nextSeq := succWrap Config.triggerSequences s.trig.nextSeq
    trig.blankUntil := s.clock.ticks + s.trig.settings.blanking }

/-- A rack trigger is offered to the pending slot (R142). -/
def fillSlot (t : Trigger) (s : State) : State :=
  if s.trig.pendingTrigger.isNone ∧ s.trunk.switch = .inline then { s with trig.pendingTrigger := some t }
  else countOverrun s

/-- An edge with its candidate time (R139). -/
def edge (time : Nat) (s : State) : State :=
  let t := triggerOf time s
  match s.trig.settings.table.get (conditionAddress s.trig) with
  | .nothing => s
  | .localTrigger => makeTrigger t s
  | .rackTrigger => fillSlot t (makeTrigger t s)

/-- The unmasked lines that rise when the lines in `changes` change their filtered level (R139). -/
def risingLines (changes : BitVec 4) (t : TriggerUnit) : BitVec 4 := changes &&& ~~~t.filtered &&& ~~~t.settings.mask

/-- The lines that change in `changes` take their new filtered level, and the rises among the unmasked ones form one
edge outside blanking (R138 to R140). -/
def levelsChange (changes : BitVec 4) (time : Nat) (s : State) : State :=
  let rises := risingLines changes s.trig
  let s := { s with trig.filtered := s.trig.filtered ^^^ changes }
  if rises = 0 ∨ isBlanking s then s else edge time s

/-- The end of the filter time of the candidates that ends first (R138). -/
def nextFilterEnd (t : TriggerUnit) : Option Nat :=
  (t.candidates.list.filterMap fun c => c.map (·.due)).min?

/-- A candidate's filter time ends at local count `due`. -/
def filterEnds (due : Nat) (c : Option Candidate) : Bool :=
  match c with
  | some x => x.due = due
  | none => false

/-- The lines picked by `p`, one bit each. -/
def linesOf (p : Fin 4 → Bool) : BitVec 4 :=
  BitVec.ofNat 4 (bif p 0 then 1 else 0) ||| BitVec.ofNat 4 (bif p 1 then 2 else 0)
    ||| BitVec.ofNat 4 (bif p 2 then 4 else 0) ||| BitVec.ofNat 4 (bif p 3 then 8 else 0)

/-- The candidate time of an edge whose rising lines are `rises`: that of a line that rises, of the lowest-numbered one
where a MARK's correction fell between two changes of one tick (R139, R141; log 44). -/
def changeTime (rises : BitVec 4) (t : TriggerUnit) : Nat :=
  (((List.finRange 4).filterMap fun i =>
    if lineLevel rises i then (t.candidates.get i).map (·.time) else none).head?).getD 0

/-- The filter times that end at local count `due` take effect (R138). -/
def filterTakesEffect (due : Nat) (s : State) : State :=
  let ends : Fin 4 → Bool := fun i => filterEnds due (s.trig.candidates.get i)
  levelsChange (linesOf ends) (changeTime (risingLines (linesOf ends) s.trig) s.trig)
    { s with trig.candidates := s.trig.candidates.map fun c => if filterEnds due c then none else c }

/-- The candidate of a line whose raw level is now `level` (R138). -/
def newCandidate (s : State) (i : Fin 4) (level : Bool) (old : Option Candidate) : Option Candidate :=
  if level = lineLevel s.trig.filtered i then none
  else
    match old with
    | some c => some c
    | none => some { time := s.clock.rack, due := s.clock.ticks + s.trig.settings.filter }

/-- The raw levels become `levels` (R138); with a filter time of 0 the filtered levels follow at once. The lines that rise in
one tick are one edge (R139), and changes of one tick come in one row: the model's choice (log 100). -/
def linesChange (levels : BitVec 4) (s : State) : State :=
  if watchesLines s then
    let s := { s with
      trig.candidates := s.trig.candidates.mapIdx fun i c => newCandidate s i (lineLevel levels i) c }
    if s.trig.settings.filter = 0 then filterTakesEffect s.clock.ticks s else s
  else s

/-- TRIGGER_LINE_CHANGE (R138), with the four raw levels after the change. -/
def execTriggerLineChange (levels : BitVec 4) (s : State) : Host.Outcome State Fault Refusal :=
  .next (event (linesChange levels) { s with pins.lines := levels })

/-- A filter time runs out (R138). -/
def filterRunsOut (s : State) : State :=
  match nextFilterEnd s.trig with
  | some due => filterTakesEffect due (waitTicks due s)
  | none => s

/-- FILTER_TIME_EXPIRY (R138). -/
def execFilterTimeExpiry (s : State) : Host.Outcome State Fault Refusal := .next (event filterRunsOut s)

/-- BLANKING_END (R140): the rest of a running blanking passes. -/
def execBlankingEnd (s : State) : Host.Outcome State Fault Refusal :=
  .next (event (fun s => waitTicks s.trig.blankUntil s) s)

end Sys2Proof.Machine
end

