-- ==== Sys2Proof/Machine/Dispatch.lean ====
section
/-! DEFINITION. The meaning of each command, one arm for each row of the table. -/
namespace Sys2Proof.Machine

def exec (i : Instr) (s : State) : Host.Outcome State Fault Refusal :=
  match i with
  | .powerOn => Sys2Proof.Machine.execPowerOn s
  | .resetInput => Sys2Proof.Machine.execResetInput s
  | .supplyLoss => Sys2Proof.Machine.execSupplyLoss s
  | .setupLoadEnd straps supplied => Sys2Proof.Machine.execSetupLoadEnd straps supplied s
  | .ejectRise => Sys2Proof.Machine.execEjectRise s
  | .ejectFall => Sys2Proof.Machine.execEjectFall s
  | .startLineRise => Sys2Proof.Machine.execStartLineRise s
  | .startLineFall => Sys2Proof.Machine.execStartLineFall s
  | .referenceAppears input => Sys2Proof.Machine.execReferenceAppears input s
  | .referenceLost input => Sys2Proof.Machine.execReferenceLost input s
  | .acquisitionComplete => Sys2Proof.Machine.execAcquisitionComplete s
  | .holdoverExpiry => Sys2Proof.Machine.execHoldoverExpiry s
  | .rackTimeHoldEnd => Sys2Proof.Machine.execRackTimeHoldEnd s
  | .cutIn => Sys2Proof.Machine.execCutIn s
  | .cutOut => Sys2Proof.Machine.execCutOut s
  | .markDue pair => Sys2Proof.Machine.execMarkDue pair s
  | .roundBoundary => Sys2Proof.Machine.execRoundBoundary s
  | .joiningTimeout => Sys2Proof.Machine.execJoiningTimeout s
  | .rollCallStart => Sys2Proof.Machine.execRollCallStart s
  | .rollCallPosition pair => Sys2Proof.Machine.execRollCallPosition pair s
  | .laneStart lane pair => Sys2Proof.Machine.execLaneStart lane pair s
  | .contentionOpportunity index rival => Sys2Proof.Machine.execContentionOpportunity index rival s
  | .quietGapEnd rival => Sys2Proof.Machine.execQuietGapEnd rival s
  | .failedPacketReceived heard => Sys2Proof.Machine.execFailedPacketReceived heard s
  | .readBackFailed => Sys2Proof.Machine.execReadBackFailed s
  | .driveLimitCutOff => Sys2Proof.Machine.execDriveLimitCutOff s
  | .repeaterCutOff => Sys2Proof.Machine.execRepeaterCutOff s
  | .takeMark m received => Sys2Proof.Machine.execTakeMark m received s
  | .missedMark => Sys2Proof.Machine.execMissedMark s
  | .markTimeout => Sys2Proof.Machine.execMarkTimeout s
  | .backoffExpiry => Sys2Proof.Machine.execBackoffExpiry s
  | .unframedSourceTimeout => Sys2Proof.Machine.execUnframedSourceTimeout s
  | .emptyTrunkListenExpiry => Sys2Proof.Machine.execEmptyTrunkListenExpiry s
  | .emptyTrunkAttemptTimeout => Sys2Proof.Machine.execEmptyTrunkAttemptTimeout s
  | .takeTakeover t received => Sys2Proof.Machine.execTakeTakeover t received s
  | .takeHandoff h => Sys2Proof.Machine.execTakeHandoff h s
  | .takePresenceWord p => Sys2Proof.Machine.execTakePresenceWord p s
  | .takeJoin j => Sys2Proof.Machine.execTakeJoin j s
  | .takeLeave l => Sys2Proof.Machine.execTakeLeave l s
  | .takeClaim c => Sys2Proof.Machine.execTakeClaim c s
  | .takeRelease r => Sys2Proof.Machine.execTakeRelease r s
  | .takeSample p => Sys2Proof.Machine.execTakeSample p s
  | .takeTrigger t => Sys2Proof.Machine.execTakeTrigger t s
  | .triggerLineChange levels => Sys2Proof.Machine.execTriggerLineChange levels s
  | .filterTimeExpiry => Sys2Proof.Machine.execFilterTimeExpiry s
  | .blankingEnd => Sys2Proof.Machine.execBlankingEnd s
  | .guardPeriodEnd => Sys2Proof.Machine.execGuardPeriodEnd s
  | .leavingTimeout => Sys2Proof.Machine.execLeavingTimeout s
  | .push ch word => Sys2Proof.Machine.execPush ch word s
  | .openOut ch => Sys2Proof.Machine.execOpenOut ch s
  | .closeNow ch => Sys2Proof.Machine.execCloseNow ch s
  | .closeDrain ch => Sys2Proof.Machine.execCloseDrain ch s
  | .openIn ch => Sys2Proof.Machine.execOpenIn ch s
  | .closeIn ch => Sys2Proof.Machine.execCloseIn ch s
  | .holdIn ch => Sys2Proof.Machine.execHoldIn ch s
  | .resumeIn ch => Sys2Proof.Machine.execResumeIn ch s
  | .armIn ch start stop => Sys2Proof.Machine.execArmIn ch start stop s
  | .disarmIn ch => Sys2Proof.Machine.execDisarmIn ch s
  | .readDelivery ch => Sys2Proof.Machine.execReadDelivery ch s
  | .readMemory page offset count => Sys2Proof.Machine.execReadMemory page offset count s
  | .takePair ch => Sys2Proof.Machine.execTakePair ch s
  | .returnPair ch => Sys2Proof.Machine.execReturnPair ch s
  | .readChannel direction ch => Sys2Proof.Machine.execReadChannel direction ch s
  | .unknownFrameRequest frame => Sys2Proof.Machine.execUnknownFrameRequest frame s
  | .resultCollected => Sys2Proof.Machine.execResultCollected s
  | .serviceReadLive cls index => Sys2Proof.Machine.execServiceReadLive cls index s
  | .serviceReadSnapshot cls index => Sys2Proof.Machine.execServiceReadSnapshot cls index s
  | .snapshot => Sys2Proof.Machine.execSnapshot s
  | .readSummary => Sys2Proof.Machine.execReadSummary s
  | .rejoin => Sys2Proof.Machine.execRejoin s
  | .leave => Sys2Proof.Machine.execLeave s
  | .clearIsolation => Sys2Proof.Machine.execClearIsolation s
  | .unknownServiceRequest frame => Sys2Proof.Machine.execUnknownServiceRequest frame s
  | .serviceAnswerSent => Sys2Proof.Machine.execServiceAnswerSent s

end Sys2Proof.Machine
end

