-- ==== Sys2Proof/Safety.lean ====
section
/-! DEFINITION. What must stay true of the station: the invariants the statements speak of, each with the rule it comes
from, and what it means that a command leaves a part of the state as it was. -/
namespace Sys2Proof.Machine

/-! ### Settled conditions (R27, R34, R107) -/

/-- The role is held only under the conditions of R27. -/
def roleSettled (s : State) : Bool := !s.tb.role || keepsRole s

/-- An election is under way exactly while its conditions hold (R34). -/
def electionSettled (s : State) : Bool := electionHolds s == (s.tb.election != .idle)

/-- A channel is not OPEN or OPEN-SHORT while a pause cause holds, and not PAUSED while none does (R107). -/
def channelSettled (cause : Bool) (c : OutChannel) : Bool :=
  if cause then c.state != .opened && c.state != .openShort else c.state != .paused

/-- Every outbound channel is settled (R107). -/
def pausesSettled (s : State) : Bool := s.out.list.all (channelSettled (pauseCause s))

/-- The conditions that one block reads of another are settled (log 21). -/
def settled (s : State) : Bool := roleSettled s && electionSettled s && pausesSettled s

/-! ### Rows by what they move -/

/-- What a row is, by what it alone may move. -/
inductive RowKind where
  /-- POWER_ON and RESET_INPUT, after which every block begins anew (R179). -/
  | restart
  /-- SUPPLY_LOSS (R1). -/
  | supply
  /-- SETUP_LOAD_END (R180). -/
  | load
  /-- A change of an input pin (R21, R138, R175, R177). -/
  | pin
  /-- CUT_IN and CUT_OUT (R1). -/
  | relay
  /-- A row that can bring a SAMPLE (R4, R121). -/
  | sample
  /-- A row of the frame port (R169, R170). -/
  | framePort
  /-- A row of the service port (R183). -/
  | servicePort
  /-- Any other event of the trunk or of a timer. -/
  | event
deriving DecidableEq, Repr

/-- The kind of each row. -/
def rowKind : Instr → RowKind
  | .powerOn => .restart
  | .resetInput => .restart
  | .supplyLoss => .supply
  | .setupLoadEnd _ _ => .load
  | .ejectRise => .pin
  | .ejectFall => .pin
  | .startLineRise => .pin
  | .startLineFall => .pin
  | .referenceAppears _ => .pin
  | .referenceLost _ => .pin
  | .acquisitionComplete => .event
  | .holdoverExpiry => .event
  | .rackTimeHoldEnd => .event
  | .cutIn => .relay
  | .cutOut => .relay
  | .markDue _ => .event
  | .roundBoundary => .event
  | .joiningTimeout => .event
  | .rollCallStart => .event
  | .rollCallPosition _ => .event
  | .laneStart _ _ => .event
  | .contentionOpportunity _ _ => .event
  | .quietGapEnd _ => .event
  | .failedPacketReceived _ => .sample
  | .readBackFailed => .event
  | .driveLimitCutOff => .event
  | .repeaterCutOff => .event
  | .takeMark _ _ => .event
  | .missedMark => .event
  | .markTimeout => .event
  | .backoffExpiry => .event
  | .unframedSourceTimeout => .event
  | .emptyTrunkListenExpiry => .event
  | .emptyTrunkAttemptTimeout => .event
  | .takeTakeover _ _ => .event
  | .takeHandoff _ => .event
  | .takePresenceWord _ => .event
  | .takeJoin _ => .event
  | .takeLeave _ => .event
  | .takeClaim _ => .event
  | .takeRelease _ => .event
  | .takeSample _ => .sample
  | .takeTrigger _ => .event
  | .triggerLineChange _ => .pin
  | .filterTimeExpiry => .event
  | .blankingEnd => .event
  | .guardPeriodEnd => .event
  | .leavingTimeout => .event
  | .push _ _ => .framePort
  | .openOut _ => .framePort
  | .closeNow _ => .framePort
  | .closeDrain _ => .framePort
  | .openIn _ => .framePort
  | .closeIn _ => .framePort
  | .holdIn _ => .framePort
  | .resumeIn _ => .framePort
  | .armIn _ _ _ => .framePort
  | .disarmIn _ => .framePort
  | .readDelivery _ => .framePort
  | .readMemory _ _ _ => .framePort
  | .takePair _ => .framePort
  | .returnPair _ => .framePort
  | .readChannel _ _ => .framePort
  | .unknownFrameRequest _ => .framePort
  | .resultCollected => .framePort
  | .serviceReadLive _ _ => .servicePort
  | .serviceReadSnapshot _ _ => .servicePort
  | .snapshot => .servicePort
  | .readSummary => .servicePort
  | .rejoin => .servicePort
  | .leave => .servicePort
  | .clearIsolation => .servicePort
  | .unknownServiceRequest _ => .servicePort
  | .serviceAnswerSent => .servicePort

/-- The service port is IDLE in a station with supply (R183). -/
def serviceReady (s : State) : Bool := s.powered && s.service = .idle

/-- The frame port with the result of a channel request waiting (Table 11-12). -/
def channelResult (kind : Nat) (ch : Channel) (code : FrameCode) (payload : FramePayload) : Port FrameResult :=
  .answered { kind := byteOf kind, channel := byteOf ch.val, offset := 0, code := code, payload := payload }

/-- The service port with an answer waiting to be sent (Table 11-10). -/
def serviceResult (kind : Nat) (code : ServiceCode) (payload : ServicePayload) : Port ServiceAnswer :=
  .answered { kind := byteOf kind, code := code, payload := payload }

/-! ### Queues and logs (R14, R94, R117) -/

/-- At most 8 control packets wait, at most six of them ordinary (R14). -/
def controlQueueBounded (s : State) : Bool :=
  s.trunk.queue.length ≤ Config.queueEntries && s.trunk.queue.countP isOrdinary ≤ Config.ordinaryEntries

/-- The control queue holds at most one entry of each reserved kind (R14). -/
def reservedOnce (s : State) : Bool :=
  [ArbClass.leave, ArbClass.handoff, ArbClass.takeover].all fun c =>
    s.trunk.queue.countP (fun e => entryClass e = c) ≤ 1

/-- No outbound queue holds more than 512 entries (R98). -/
def outboundQueuesBounded (s : State) : Bool :=
  s.out.list.all fun c => c.queue.length ≤ Config.outboundEntries

/-- No delivery log holds more than 16 records (R117). -/
def deliveryLogsBounded (s : State) : Bool := s.inb.list.all fun c => c.log.length ≤ Config.logRecords

/-- The packets refused admission that wait to be offered again are ordinary ones (R15). -/
def waitingOrdinary (s : State) : Bool := s.trunk.waiting.all isOrdinary

/-- A reserved packet was asked for between `s` and `t` (R14): an entry of its kind that waits absorbs it; else it stands
in its place in the queue, in a full queue of which nothing is in flight in place of the last entry, if that is ordinary. -/
def reservedAdmitted (e : QueueEntry) (s t : State) : Prop :=
  ((∃ x ∈ s.trunk.queue, entryClass x = entryClass e) → t.trunk.queue = s.trunk.queue)
    ∧ ((∀ x ∈ s.trunk.queue, entryClass x ≠ entryClass e) →
        (s.trunk.queue.length < 8 → t.trunk.queue = insertEntry e s.trunk.queue)
        ∧ (8 ≤ s.trunk.queue.length → s.trunk.sending = none →
            ∀ d, s.trunk.queue.getLast? = some d → isOrdinary d = true →
              t.trunk.queue = insertEntry e s.trunk.queue.dropLast))

/-- The entry to LEAVING between `s` and `t` queued the LEAVE (R63), and of a source the HANDOFF that names as successor
the PRESENT station, eligible and without its trouble flag, with the best rank and then ID, or none without one (R39). The
premises are the bounds of the queue, in which what is in flight is not displaced (R14, R16). -/
def leavePacketsQueued (s t : State) : Prop :=
  let e (i : StationId) := s.roster.get i
  let qualifies (i : StationId) : Prop :=
    (e i).state = .present ∧ (e i).eligible = true ∧ (e i).trouble = false ∧ i ≠ stationId s
  let best (i : StationId) : Prop :=
    qualifies i ∧ ∀ k, qualifies k → (e i).rank < (e k).rank ∨ ((e i).rank = (e k).rank ∧ i ≤ k)
  controlQueueBounded s = true → reservedOnce s = true → s.trunk.sending = none ∨ s.trunk.queue.length ≤ 6 →
    ((∀ x ∈ s.trunk.queue, entryClass x ≠ .leave) → .leave { station := stationId s } ∈ t.trunk.queue)
    ∧ (s.tb.role = true → (∀ x ∈ s.trunk.queue, entryClass x ≠ .handoff) →
        (∀ j, best j → .handoff (stationId s) (some j) ∈ t.trunk.queue)
        ∧ ((∀ i, ¬qualifies i) → .handoff (stationId s) none ∈ t.trunk.queue))

/-! ### A withdrawal, and the end of LEAVING (R64, R70) -/

/-- The states in which the rejoin kind of withdrawal makes an outbound channel LOST (Table 3-2). -/
def losesSlots (st : OutState) : Prop := st ∈ [OutState.opening, .opened, .openShort, .paused, .closing]

/-- A withdrawal of kind `k` made the outbound channel `c` into `d` (Table 3-2, R110, R112). What a LOST channel keeps of a
close is log 60, its FIRST pending and last claim outcome log 93, the notes of a closed one log 50, the lists of a CONFLICT
channel log 23. -/
def outWithdrawn (k : Withdrawal) (c d : OutChannel) : Prop :=
  match k with
  | .admission => d = c
  | .rejoin =>
    (losesSlots c.state → d = { c with
        state := .lost, slots := [], claims := [], attempts := 0, closePending := false
        closingTo := if c.closePending = true ∨ c.closingTo = some .closed then some .closed else none
        releasesOut := 0, emptyAttempt := false })
    ∧ (c.state = .conflict → d = { c with slots := [], claims := [], releasesOut := 0 })
    ∧ (c.state = .closed ∨ c.state = .failed ∨ c.state = .lost → d = c)
  | .leave =>
    (c.state = .closed ∨ c.state = .lost → d = c)
    ∧ (c.state ≠ .closed → c.state ≠ .lost → d = { c with
        state := .closed, queue := [], discarded := min 281474976710655 (c.discarded + c.queue.length)
        slots := [], claims := [], attempts := 0, firstPending := false, drain := false, closePending := false
        closingTo := none, timeStep := false, dropped := false, releasesOut := 0, emptyAttempt := false })

/-- Roster, Lane Map, source role, inbound channels, pending TRIGGER and guard stand in `t` as a withdrawal leaves them
(Table 3-2, R137, R143, R144, R167), with what it counts and keeps from `s`: a HELD channel is treated as resumed, so that
packets it dropped show in its next record (R129). That the guard's interval is gone before the cut-out is log 39. -/
def rackLeft (s t : State) : Prop :=
  (∀ i, t.roster.get i = RosterEntry.cleared) ∧ (∀ i, t.trig.lastSeq.get i = none) ∧ t.map = LaneMap.cleared
    ∧ t.station.viewOmissions = 0 ∧ t.station.leaveOutcome = none
    ∧ t.tb.role = false ∧ t.tb.election = .idle ∧ t.tb.period = s.tb.period
    ∧ (∀ ch, (t.inb.get ch).state = if (s.inb.get ch).state = .closed then .closed else .waiting) ∧ t.mem = s.mem
    ∧ (∀ ch, (s.inb.get ch).state = .held → (t.inb.get ch).heldDrop = 0
        ∧ (0 < (s.inb.get ch).heldDrop →
            (t.inb.get ch).pendingFlags.heldDropped = true ∧ (t.inb.get ch).pendingFlags.gap = true))
    ∧ t.trig.pendingTrigger = none
    ∧ (s.trig.pendingTrigger = none → t.trig.overruns = s.trig.overruns)
    ∧ (s.trig.pendingTrigger ≠ none → t.trig.overruns = min 65535 (s.trig.overruns + 1)
        ∧ t.flags &&& flagBit .triggerOverrun = flagBit .triggerOverrun)
    ∧ t.guard.state = .clear ∧ t.guard.faults = 0 ∧ t.guard.clean = 0 ∧ t.guard.blanking = 0
    ∧ t.guard.interval = .none ∧ t.guard.leaveDue = false ∧ t.guard.trouble = false ∧ t.guard.troubleHold = 0
    ∧ t.guard.trip = s.guard.trip ∧ t.guard.thresholds = s.guard.thresholds
    ∧ (s.guard.state ≠ .clear → t.flags &&& flagBit .guard = flagBit .guard)

/-- A withdrawal of kind `k` was made between `s` and `t`, and nothing else of what it touches (Table 3-2, R137, R167). -/
def withdrawn (k : Withdrawal) (s t : State) : Prop :=
  rackLeft s t
    ∧ (s.tb.role = false → t.tb.lock = s.tb.lock ∧ t.tb.designated = s.tb.designated)
    ∧ (∀ ch, outWithdrawn k (s.out.get ch) (t.out.get ch))
    ∧ (k = .rejoin → (∃ ch, losesSlots (s.out.get ch).state) → t.flags &&& flagBit .channel = flagBit .channel)
    ∧ (∀ ch, let c := s.inb.get ch
        let d := t.inb.get ch
        (c.state = .closed → d = c) ∧ (c.state ≠ .closed → d.holder = none)
          ∧ d.log = c.log ∧ d.counters = c.counters ∧ d.window = c.window ∧ d.committed = c.committed
          ∧ d.latest = c.latest ∧ d.hold = c.hold ∧ d.expectedTag = c.expectedTag ∧ d.timeStep = c.timeStep
          ∧ (c.state = .held → 0 < c.heldDrop → d.heldDrop = 0
              ∧ d.pendingFlags = { c.pendingFlags with heldDropped := true, gap := true })
          ∧ (c.state ≠ .held ∨ c.heldDrop = 0 → d.heldDrop = c.heldDrop ∧ d.pendingFlags = c.pendingFlags))
    ∧ t.guard.last = s.guard.last ∧ t.guard.faulted = s.guard.faulted ∧ t.guard.quietEntries = s.guard.quietEntries

/-- The entry to ISOLATED was made between `s` and `t` (R68): delivery stops and the safe line is asserted, the Roster is
held, the own slots are free and no other slot moves (R80), the open outbound channels are LOST (R112), those without a
close or an attempt that falls due stay, and the inbound ones stay. -/
def isolationEntered (s t : State) : Prop :=
  t.station.state = .isolated ∧ t.station.leaveOutcome = none ∧ delivers t = false ∧ safeLine t = true
    ∧ t.roster = s.roster ∧ t.map.epoch = s.map.epoch ∧ t.inb = s.inb
    ∧ (∀ l, (∃ x, (slotEntry s.map l).holding = some x ∧ x.holder = stationId s) → slotEntry t.map l = SlotEntry.free)
    ∧ (∀ l, ¬(∃ x, (slotEntry s.map l).holding = some x ∧ x.holder = stationId s) →
        slotEntry t.map l = slotEntry s.map l)
    ∧ (∀ ch, let c := s.out.get ch
        losesSlots c.state ∨ (c.closePending = false ∧ c.emptyAttempt = false) → outWithdrawn .rejoin c (t.out.get ch))
    ∧ ((∃ ch, losesSlots (s.out.get ch).state) → t.flags &&& flagBit .channel = flagBit .channel)

/-- LEAVING ended between `s` and `t` for its outcome (R64): PARKED with the leave kind of withdrawal, LISTENING with the
rejoin kind and a listen begun (R41). Closings that fell due with the end have been carried out first (R63, R64). -/
def leavingEnded (s t : State) : Prop :=
  rackLeft s t
    ∧ (s.station.leaveOutcome = some .parked → t.station.state = .parked
        ∧ ∀ ch, let c := s.out.get ch
          c.state ≠ .closed → c.state ≠ .lost → (t.out.get ch).state = .closed ∧ (t.out.get ch).queue = []
            ∧ (t.out.get ch).discarded = min 281474976710655 (c.discarded + c.queue.length))
    ∧ (s.station.leaveOutcome = some .listening → t.station.state = .listening
        ∧ t.tb.listen = (if eligible s then .running (t.clock.rack + 8 * ownPeriod s) else .idle)
        ∧ ∀ ch, let c := s.out.get ch
          (losesSlots c.state → c.closePending = false →
              (t.out.get ch).state = .lost ∧ (t.out.get ch).queue = c.queue ∧ (t.out.get ch).slots = [])
            ∧ (losesSlots c.state → c.closePending = true → (t.out.get ch).state = .closed
                ∨ ((t.out.get ch).state = .lost ∧ (t.out.get ch).closingTo = some .closed)))

/-- An empty-trunk attempt was abandoned between `s` and `t` (R42, R60): LISTENING with the admission kind of withdrawal, so
that Roster and map are cleared and no failure is counted, the TAKEOVER withdrawn but for one in flight, and a listen begun
(R41). The cut-out falls due (R1). -/
def emptyTrunkAbandoned (s t : State) : Prop :=
  t.station = { s.station with state := .listening, blockReason := none, leaveOutcome := none, viewOmissions := 0 }
    ∧ t.progress.emptyTrunk = false ∧ wantedSwitch t = .closed
    ∧ (∀ i, t.roster.get i = RosterEntry.cleared) ∧ t.map = LaneMap.cleared ∧ t.guard.state = .clear
    ∧ (∀ e ∈ t.trunk.queue, isTakeover e = true → inFlight s e = true)
    ∧ t.tb.listen = (if eligible s then .running (t.clock.rack + 8 * ownPeriod s) else .idle)

/-! ### The epoch test and the reconciliation (R83, R86, R89) -/

/-- Between `u` and `t` the map was handed epoch `e` and tested it (R83). Equal epochs leave the map as it is but for the
result, unequal ones are a resync cause (R86): a resync starts with an empty set of pages and the MAP flag, in RECONCILING
with the old RELEASEs withdrawn, or the third of a JOINED station fails and it REJOINs (R69). What stays after a failed
resync is log 38, a count that stands at 3 from JOINING is log 78. -/
def epochTested (e : Nat) (u t : State) : Prop :=
  let count := if u.map.boundariesSince < 12 then min 3 (u.map.consecutive + 1) else 1
  let fails : Prop := u.station.state = .joined ∧ count = 3
  (e = u.map.epoch → t.map = { u.map with lastTest := some true } ∧ t.station = u.station)
    ∧ (e ≠ u.map.epoch → u.map.failed = true →
        t.map = { u.map with lastTest := some false } ∧ t.station = u.station)
    ∧ (e ≠ u.map.epoch → u.map.failed = false → ¬fails →
        t.map = { u.map with
            lastTest := some false, resync := .gathering, gathered := Bank.fill 12 false, gatherMarks := 0
            consecutive := count, outstanding := 0, mismatch := Bank.fill 16 0 }
        ∧ t.station = u.station ∧ t.flags &&& flagBit .map = flagBit .map
        ∧ (u.map.resync = .reconciling → u.trunk.sending = none →
            ∀ x ∈ t.trunk.queue ++ t.trunk.waiting, isReconciliation x = false))
    ∧ (e ≠ u.map.epoch → u.map.failed = false → fails →
        t.map = { u.map with lastTest := some false, consecutive := 3, failed := true }
        ∧ t.station.state = .leaving ∧ t.station.leaveOutcome = some .listening ∧ leavePacketsQueued u t
        ∧ t.flags &&& flagBit .map = flagBit .map)

/-- Between `s` and `t` the map, its entries as they stand in `s`, was reconciled with the channels' lists (R89): every slot
that is not the channel's own leaves its list, and the own slots in no list are queued for RELEASE, at most eight in each, the
resync being RECONCILING; without any it ends at once (R90). Inbound channels are judged again (R120). -/
def reconciled (s t : State) : Prop :=
  let own (ch : Channel) (l : Slot) : Prop :=
    (slotEntry s.map l).holding = some { holder := stationId s, stream := (s.out.get ch).defn.stream }
  let unbound (l : Slot) : Prop :=
    heldBy (stationId s) (slotEntry s.map l) = true ∧ ∀ ch, l ∈ (s.out.get ch).slots → ¬own ch l
  t.map.entries = s.map.entries
    ∧ (∀ ch l, l ∈ (t.out.get ch).slots → l ∈ (s.out.get ch).slots ∧ own ch l)
    ∧ ((∀ l, ¬unbound l) → t.map.resync = .none ∧ t.map.boundariesSince = 0 ∧ t.map.outstanding = 0
        ∧ t.map.stray = 0 ∧ (∀ i, t.map.mismatch.get i = 0) ∧ t.flags &&& flagBit .map = flagBit .map)
    ∧ ((∃ l, unbound l) → t.map.resync = .reconciling ∧ t.map.outstanding ≠ 0
        ∧ ∀ l, unbound l → ∃ r, .release none r ∈ t.trunk.queue ++ t.trunk.waiting
            ∧ r.station = stationId s ∧ l ∈ r.slots ∧ r.slots.length ≤ 8
            ∧ (slotEntry s.map l).holding = some { holder := stationId s, stream := r.stream })
    ∧ (∀ ch h, (s.inb.get ch).state = .waiting → streamHolder s.map.entries (s.inb.get ch).defn.stream = some h →
        (t.inb.get ch).state = .receiving ∧ (t.inb.get ch).holder = some h)
    ∧ (∀ ch, (s.inb.get ch).state = .receiving → streamCount s.map.entries (s.inb.get ch).defn.stream = 0 →
        (t.inb.get ch).state = .waiting ∧ (t.inb.get ch).holder = none)

/-- The map at the gain of the role (R92): a gathering ends, reconciled at once with the running epoch; any other map stands,
a RECONCILING one too. -/
def roleGainedMap (s t : State) : Prop :=
  (s.map.resync = .gathering → t.map.epoch = s.map.epoch ∧ reconciled s t) ∧ (s.map.resync ≠ .gathering → t.map = s.map)

/-! ### What falls due at a boundary or an unframed opportunity (R15, R100, R108, R111) -/

/-- The closing of channel `ch` toward `goal` was carried out between `s` and `t` (R108, R111): its queue flushed toward
CLOSED and kept toward LOST, its slots listed in one RELEASE. Without slots it is there at once, toward CLOSED if none of its
CLAIMs or RELEASEs is still out (R110). -/
def channelClosed (goal : ClosingTo) (ch : Channel) (s t : State) : Prop :=
  let c := s.out.get ch
  let d := t.out.get ch
  d.closePending = false
    ∧ (goal = .closed → d.queue = [] ∧ d.drain = false
        ∧ d.discarded = min 281474976710655 (c.discarded + c.queue.length))
    ∧ (goal = .lost → d.queue = c.queue ∧ d.discarded = c.discarded ∧ d.drain = c.drain)
    ∧ (c.slots ≠ [] → d.state = .closing ∧ d.closingTo = some goal ∧ d.slots = c.slots
        ∧ .release (some ch) { station := stationId s, stream := c.defn.stream, slots := c.slots }
            ∈ t.trunk.queue ++ t.trunk.waiting)
    ∧ (c.slots = [] → goal = .lost → d.state = .lost)
    ∧ (c.slots = [] → goal = .closed → c.claims = [] ∨ s.trunk.sending = none → c.releasesOut = 0 →
        d.state = .closed)

/-- Attempts that found no candidate completed between `s` and `t` (R100, R101): another attempt while the budget lasts,
with its CLAIMs queued or waiting, else OPEN-SHORT with the slots held, or FAILED without any. -/
def attemptsCompleted (s t : State) : Prop :=
  ∀ ch, let c := s.out.get ch
    let d := t.out.get ch
    c.emptyAttempt = true → c.state = .opening → c.claims = [] → c.slots.length < c.defn.wanted →
      c.closePending = false →
      (c.attempts < 4 → d.state = .opening ∧ d.attempts = c.attempts + 1 ∧ d.emptyAttempt = d.claims.isEmpty
        ∧ (∀ ls ∈ d.claims, .claim ch { station := stationId s, stream := c.defn.stream, slots := ls }
            ∈ t.trunk.queue ++ t.trunk.waiting)
        ∧ (∀ l ∈ d.claims.flatten, (slotEntry s.map l).holding = none))
      ∧ (4 ≤ c.attempts → d.emptyAttempt = false ∧ t.flags &&& flagBit .channel = flagBit .channel)
      ∧ (4 ≤ c.attempts → c.slots = [] → d.state = .failed ∧ d.queue = [])
      ∧ (4 ≤ c.attempts → c.slots ≠ [] → d.state = (if pauseCause t then .paused else .openShort))

/-- Packets refused admission were offered again between `s` and `t` (R15): none of those that `kept` picks is lost, and
none waits on while the queue has room for an ordinary entry (R14). -/
def offeredAgain (kept : QueueEntry → Prop) (s t : State) : Prop :=
  (∀ e ∈ s.trunk.waiting, kept e → e ∈ t.trunk.queue ++ t.trunk.waiting)
    ∧ (t.trunk.waiting ≠ [] → 6 ≤ t.trunk.queue.countP isOrdinary ∨ 8 ≤ t.trunk.queue.length)

/-! ### Time, memory and map -/

/-- Rack time is a count of 48 bits (R24). -/
def rackTimeBounded (s : State) : Bool := s.clock.rack ≤ Config.rackTimeMax

/-- Sample Memory is in its canonical form. -/
def memoryCanonical (s : State) : Bool := Memory.wf s.mem

/-- The queues, the logs and Sample Memory are in their bounds and forms (R14, R94, R117). -/
def queuesSound (s : State) : Bool :=
  controlQueueBounded s && reservedOnce s && waitingOrdinary s && outboundQueuesBounded s && deliveryLogsBounded s
    && memoryCanonical s

/-- No stream is held by two stations (R72). -/
def streamsUndivided (s : State) : Bool := oneHolderPerStream s.map.entries

/-! ### The rack, the switch and the guard (R1, 8.1, R153) -/

/-- Of a station with supply: it sends only while INLINE; JOINED and LEAVING stations are INLINE; the guard is ISOLATED
exactly in the station state ISOLATED and CLEAR outside the rack; an interval is in progress only while INLINE, in
the rack or in ISOLATED up to the cut-out; the load runs only in SETUP. Of one without supply: the switch is CLOSED and nothing
is in flight (R1, R67, R155, R179, 8.1). -/
def rackConsistent (s : State) : Bool :=
  if s.powered then
    (!s.trunk.sending.isSome || s.trunk.switch = .inline)
      && (!delivers s || s.trunk.switch = .inline)
      && (s.guard.state == .isolated) == (s.station.state == .isolated)
      && (s.guard.state == .clear || inRack s || s.station.state == .isolated)
      && (s.guard.interval == .none
        || (s.trunk.switch == .inline && (inRack s || s.station.state == .isolated)))
      && (s.setup.outcome != .loading || s.station.state == .setup)
  else s.trunk.switch = .closed && s.trunk.sending.isNone

/-- The counts of the guard record stay in the ranges of Table 8-1, for thresholds in theirs. -/
def guardInRange (s : State) : Bool :=
  s.guard.faults ≤ 63 && s.guard.clean ≤ 15 && s.guard.blanking ≤ 15 && s.guard.thresholds.blanking ≤ 15
    && s.guard.troubleHold ≤ 2 && s.guard.reports.counts.echo ≤ 255 && s.guard.reports.counts.line ≤ 255
    && s.guard.reports.counts.stuck ≤ 255 && s.guard.faulted ≤ 65535 && s.guard.quietEntries ≤ 255

/-! ### Ports -/

/-- A port that is not between the taking of a request and its decision (R169, R183; log 31). -/
def portRests {ρ : Type} (p : Port ρ) : Bool :=
  match p with
  | .deciding _ => false
  | _ => true

/-- Both ports rest between commands (log 31). -/
def portsRest (s : State) : Bool := portRests s.frame && portRests s.service

/-- A snapshot is pending only while the trunk is FRAMED (R185). -/
def snapshotAwaitsBoundary (s : State) : Bool := !s.snapshots.pending || s.framer.framed

/-- The words a channel has taken in are accounted for: accepted are sent, discarded or in the queue, while no counter
stands at its top (R98). -/
def wordsBalance (c : OutChannel) : Bool :=
  c.accepted = Config.counter48Max || c.sent = Config.counter48Max || c.discarded = Config.counter48Max
    || c.accepted = c.sent + c.discarded + c.queue.length

/-- The words of every outbound channel are accounted for (R98). -/
def outboundWordsBalance (s : State) : Bool := s.out.list.all wordsBalance

end Sys2Proof.Machine
end

