-- ==== Sys2Proof/Certificates/Slice0/Obligations.lean ====
section
/-! DEFINITION. The statements about the model: for each command what it does under the conditions its rule gives, with
what it leaves as it was; for every step, what stays true. -/

open Sys2Proof Sys2Proof.Machine

/-! ### The machine, the reset and the frames of rows -/

/-- A step takes the command at the front of the queue and runs it on the queue's rest (95, log 32). -/
def Obligations.StepRunsFrontCommand : Prop :=
  ∀ (c : Instr) (rest : List Instr) (s : State),
    step { s with pending := c :: rest } = exec c { s with pending := rest }

/-- Every command answers a next state, and no command touches the queue of the commands that wait; that POWER_ON and
RESET_INPUT leave it is the model's choice (log 32). A station without supply takes nothing but POWER_ON, the model's choice
(log 9); each row that reports a pin still moves the pin to the level it reports, and nothing else: the model's choice (log
7). -/
def Obligations.EveryCommandAnswersNext : Prop :=
  (∀ (c : Instr) (s : State), ∃ t, exec c s = .next t ∧ t.pending = s.pending)
  ∧ (∀ (c : Instr) (s : State), s.powered = false → c ≠ .powerOn → c ≠ .supplyLoss →
      ∃ t, exec c s = .next t ∧ { t with pins := s.pins } = s ∧ (rowKind c ≠ .pin → t = s))
  ∧ (∀ s : State, s.powered = false →
      exec .ejectRise s = .next { s with pins := { s.pins with eject := true } }
      ∧ exec .ejectFall s = .next { s with pins := { s.pins with eject := false } }
      ∧ exec .startLineRise s = .next { s with pins := { s.pins with start := true } }
      ∧ exec .startLineFall s = .next { s with pins := { s.pins with start := false } }
      ∧ exec (.referenceAppears .trunkPair) s = .next { s with pins := { s.pins with trunkRef := true } }
      ∧ exec (.referenceLost .trunkPair) s = .next { s with pins := { s.pins with trunkRef := false } }
      ∧ exec (.referenceAppears .houseInput) s = .next { s with pins := { s.pins with houseRef := true } }
      ∧ exec (.referenceLost .houseInput) s = .next { s with pins := { s.pins with houseRef := false } }
      ∧ ∀ levels, exec (.triggerLineChange levels) s = .next { s with pins := { s.pins with lines := levels } })

/-- What the reset state is, block by block, where the rules give the value, with the output lines it shows. -/
def Obligations.ResetLeavesEachBlockAtItsStart : Prop :=
  let s := State.reset
  s.trunk.switch = .closed ∧ s.trunk.queue = [] ∧ s.trunk.sending = none ∧ s.framer.framed = false
    ∧ s.clock.rack = 0 ∧ s.tb.lock = .unlocked ∧ s.tb.role = false ∧ s.tb.designated = none ∧ s.tb.designatedRank = 8
    ∧ s.tb.lastMark = 0 ∧ s.tb.missed = 0 ∧ s.tb.expected = none
    ∧ s.station.state = .setup ∧ (∀ i, s.roster.get i = RosterEntry.cleared)
    ∧ (∀ i, s.map.entries.get i = SlotEntry.free) ∧ s.map.epoch = 0 ∧ s.map.resync = .none
    ∧ (∀ ch, (s.out.get ch).state = .closed ∧ (s.out.get ch).queue = [] ∧ (s.out.get ch).slots = [])
    ∧ (∀ ch, (s.inb.get ch).state = .closed ∧ (s.inb.get ch).log = [] ∧ (s.inb.get ch).window.state = .idle)
    ∧ (∀ a, readByte s.mem a = 0)
    ∧ s.trig.pendingTrigger = none ∧ (∀ i, s.trig.lastSeq.get i = none) ∧ s.trig.overruns = 0
    ∧ s.guard.state = .clear ∧ s.guard.faults = 0 ∧ s.guard.clean = 0 ∧ s.guard.interval = .none ∧ s.guard.trip = none
    ∧ s.frame = .idle ∧ s.service = .idle ∧ s.setup.outcome = .loading ∧ s.settings = none
    ∧ s.snapshots = { pending := false, copy := none } ∧ s.flags = 0
    ∧ attention s = false ∧ safeLine s = false ∧ frameReady s = true ∧ referenceDrive s = none
    ∧ currentPosition s = none ∧ currentSection s = none

/-- Every invariant that the statements below say a step keeps holds of the reset state: the settled conditions, the rack,
the queues with the packets that wait for admission, the logs, the words, Sample Memory, the streams, rack time, the guard
record, the ports and the snapshot area. -/
def Obligations.InvariantsHoldAtReset : Prop :=
  settled State.reset = true ∧ rackConsistent State.reset = true ∧ controlQueueBounded State.reset = true
    ∧ reservedOnce State.reset = true ∧ waitingOrdinary State.reset = true ∧ outboundQueuesBounded State.reset = true
    ∧ outboundWordsBalance State.reset = true ∧ deliveryLogsBounded State.reset = true
    ∧ memoryCanonical State.reset = true ∧ queuesSound State.reset = true ∧ streamsUndivided State.reset = true
    ∧ rackTimeBounded State.reset = true ∧ guardInRange State.reset = true ∧ portsRest State.reset = true
    ∧ snapshotAwaitsBoundary State.reset = true

/-- Power-on, and the reset input of a station with supply, put every block at its start, and a reference pair that carries
cycles starts an acquisition of 16 periods of 20,000 ticks (R21, R178, R179). That the pins stay as they are driven, and the
waiting commands and the count of free values drawn stay, are the model's choices (log 7, log 25, log 32), as are the values
State.reset gives where the rules give none (logs 6, 8, 63, 74). On loss of supply the switch closes at once and the packet
in flight is cut short (R1); that a flag then says the station is without supply, and that nothing else changes, is the
model's choice (log 9). -/
def Obligations.PowerRowsRestart : Prop :=
  ∀ s : State,
    exec .powerOn s = .next { State.reset with
      pins := s.pins
      pending := s.pending
      freeDraws := s.freeDraws
      tb := if s.pins.trunkRef then { State.reset.tb with lock := .acquiring, lockDue := some 320000 }
        else State.reset.tb }
    ∧ (s.powered = true → exec .resetInput s = exec .powerOn s)
    ∧ exec .supplyLoss s =
        .next { s with powered := false, trunk := { s.trunk with switch := .closed, sending := none } }

/-- But for a restart the switch moves by CUT_IN, CUT_OUT and SUPPLY_LOSS alone (R1; that it waits for the first two is the
model's choice, log 12), Sample Memory by a SAMPLE alone (R116), the setup record and what the image gives, the channel
definitions, the guard thresholds and the trigger settings included, by the end of the load alone (R180; that it shows
nothing of the straps and the image before is the model's choice, logs 6, 101), each port by its own rows alone, supply by
SUPPLY_LOSS alone. A pin moves by its own rows alone, at a restart as well: the model's choice (log 7). -/
def Obligations.FieldsMoveOnlyByTheirRows : Prop :=
  ∀ (c : Instr) (s t : State), exec c s = .next t →
    (rowKind c ≠ .pin → t.pins = s.pins)
    ∧ (rowKind c ≠ .restart →
        (rowKind c ≠ .relay → rowKind c ≠ .supply → t.trunk.switch = s.trunk.switch)
        ∧ (rowKind c ≠ .sample → t.mem = s.mem)
        ∧ (rowKind c ≠ .load → t.setup = s.setup ∧ t.settings = s.settings
            ∧ (∀ ch, (t.out.get ch).defn = (s.out.get ch).defn ∧ (t.inb.get ch).defn = (s.inb.get ch).defn)
            ∧ t.guard.thresholds = s.guard.thresholds ∧ t.trig.settings = s.trig.settings)
        ∧ (rowKind c ≠ .framePort → t.frame = s.frame)
        ∧ (rowKind c ≠ .servicePort → t.service = s.service)
        ∧ (rowKind c ≠ .supply → t.powered = s.powered))

/-- Rack time advances by one at each tick of the local clock except while a hold runs, stays at its top value, is set to
0 by the power rows, is left as it is by REJOIN and CLEAR ISOLATION, and never decreases but by the power rows (R24, R25).
With no command waiting a step is one tick of the local clock, and a repeater that was cut off is on again after it (R19):
that an empty queue is a tick is the model's choice (log 1, log 28). -/
def Obligations.RackTimeNeverDecreases : Prop :=
  (∀ s : State, (elapse 1 s).clock.rack =
      if s.clock.ticks < s.clock.holdUntil then min 281474976710655 s.clock.rack
      else min 281474976710655 (s.clock.rack + 1))
    ∧ (∀ s t : State, exec .powerOn s = .next t → t.clock.rack = 0)
    ∧ (∀ s t : State, s.powered = true → exec .resetInput s = .next t → t.clock.rack = 0)
    ∧ (∀ s t : State, exec .rejoin s = .next t ∨ exec .clearIsolation s = .next t → t.clock = s.clock)
    ∧ (∀ (c : Instr) (s t : State), rowKind c ≠ .restart → rackTimeBounded s = true → exec c s = .next t →
        s.clock.rack ≤ t.clock.rack ∧ rackTimeBounded t = true)
    ∧ (∀ s : State, s.pending = [] →
        (s.powered = true →
          step s = .next { s with
            clock := { s.clock with
              ticks := s.clock.ticks + 1
              rack := min 281474976710655 (s.clock.rack + if s.clock.ticks < s.clock.holdUntil then 0 else 1) }
            trunk := { s.trunk with repeaterOff := false } })
        ∧ (s.powered = false → step s = .next s))

/-- The output lines and what the Round Framer holds, as functions of the state. The attention line is asserted while a
summary flag is set that the image's mask selects, and in SETUP-FAULT while SETUP is set (R188). The safe line is asserted
in PARKED and ISOLATED (R176), the ready indication while the frame port is IDLE (R169). The trunk's reference pair is
driven from the house input exactly while the station is source and its image states a house reference (R3). The section
and position are those of Table 1-1 for the ticks since the round's start, none while UNFRAMED, and no position in the
silent tail (R6, R7); that rack time gives them is the model's reading (log 43). A station without supply asserts nothing
(log 9). -/
def Obligations.OutputLinesFollowTheState : Prop :=
  ∀ s : State,
    (attention s = true ↔ s.powered = true ∧ ∃ i : Fin 8, s.flags.getLsbD i.val = true
        ∧ ((∃ c, s.settings = some c ∧ c.mask.getLsbD i.val = true)
          ∨ (s.settings = none ∧ s.station.state = .setupFault ∧ flagBit .setup = 1 <<< i.val)))
    ∧ (safeLine s = true ↔ s.powered = true ∧ (s.station.state = .parked ∨ s.station.state = .isolated))
    ∧ (frameReady s = true ↔ s.powered = true ∧ s.frame = .idle)
    ∧ (s.powered = true → s.tb.role = true → ∀ c, s.settings = some c → c.house = true →
        referenceDrive s = some s.pins.houseRef)
    ∧ (s.powered = false ∨ s.tb.role = false ∨ s.settings = none ∨ (∃ c, s.settings = some c ∧ c.house = false) →
        referenceDrive s = none)
    ∧ (s.framer.framed = false → currentPosition s = none ∧ currentSection s = none)
    ∧ (s.framer.framed = true →
        let o := s.clock.rack - s.framer.start
        (o < 160 → currentPosition s = some .mark ∧ currentSection s = some .mark)
        ∧ (∀ k : StationId, 160 + 16 * k.val ≤ o → o < 176 + 16 * k.val →
            currentPosition s = some (.rollCall k) ∧ currentSection s = some .rollCall)
        ∧ (∀ l : Lane, 416 + 56 * l.val ≤ o → o < 472 + 56 * l.val →
            currentPosition s = some (.lane l) ∧ currentSection s = some .lanes)
        ∧ (∀ k : Fin 4, 1760 + 60 * k.val ≤ o → o < 1820 + 60 * k.val →
            currentPosition s = some (.window k) ∧ currentSection s = some .openWindow)
        ∧ (2000 ≤ o → currentPosition s = none ∧ currentSection s = some .openWindow))

/-! ### Setup and the discrete lines -/

/-- The seven conditions of Table 10-1, in their order, over the image that the memory supplied: the first that fails gives
its code, and its location where the table gives one, the lowest-numbered definition in which it fails (R180). An image that
fails none passes. -/
def Obligations.SetupChecksComeInOrder : Prop :=
  ∀ supplied : List Byte,
    let f := imageOf supplied
    let words (d : InDef) (a : Nat) : Prop :=
      d.base.val * 256 ≤ a ∧ a < d.base.val * 256 + (if d.mode = .ring then d.pages * 256 else 32)
    let encoding : Prop := (∃ a, 2 < actionCode f a) ∨ 1 < bitsAt (byteAt f 15) 0 2
      ∨ ∃ ch, 1 < bitsAt (outByte f ch 2) 0 2 ∨ 1 < bitsAt (inByte f ch 2) 2 2 ∨ 1 < bitsAt (inByte f ch 2) 4 2
          ∨ 2 < bitsAt (inByte f ch 3) 0 2
    let image : Prop := supplied.length < 256 ∨ (crc16 (f.take 254)).toNat ≠ numberAt f 254 2 ∨ encoding
    let period : Prop := imagePeriod f < 2000 ∨ 20000 < imagePeriod f
    let ring (ch : Channel) : Prop := (inDefOf f ch).mode = .ring ∧ 64 < (inDefOf f ch).base.val + (inDefOf f ch).pages
    let overlap (ch : Channel) : Prop :=
      ∃ k, k < ch ∧ ∃ a, a < 16384 ∧ words (inDefOf f k) a ∧ words (inDefOf f ch) a
    let twice (ch : Channel) : Prop := ∃ k, k < ch ∧ (outDefOf f k).stream = (outDefOf f ch).stream
    let slots (ch : Channel) : Prop := (outDefOf f ch).wanted = 0 ∨ 8 < (outDefOf f ch).wanted
    let g := imageThresholds f
    let thresholds : Prop := g.quiet = 0 ∨ g.recover = 0 ∨ g.isolate = 0 ∨ 15 < g.quiet ∨ 15 < g.recover
      ∨ 63 < g.isolate ∨ g.isolate ≤ g.quiet
    let lowest (p : Channel → Prop) (ch : Channel) : Prop := p ch ∧ ∀ k, k < ch → ¬p k
    (image → setupCheck supplied = some (.imageCheck, none))
    ∧ (¬image → period → setupCheck supplied = some (.periodRange, none))
    ∧ (¬image → ¬period →
        (∀ ch, lowest ring ch → setupCheck supplied = some (.ringRange, some ch))
        ∧ ((∀ ch, ¬ring ch) →
            (∀ ch, lowest overlap ch → setupCheck supplied = some (.ringOverlap, some ch))
            ∧ ((∀ ch, ¬overlap ch) →
                (∀ ch, lowest twice ch → setupCheck supplied = some (.streamDuplicate, some ch))
                ∧ ((∀ ch, ¬twice ch) →
                    (∀ ch, lowest slots ch → setupCheck supplied = some (.slotsRange, some ch))
                    ∧ ((∀ ch, ¬slots ch) →
                        (thresholds → setupCheck supplied = some (.guardThresholds, none))
                        ∧ (¬thresholds → setupCheck supplied = none))))))

/-- The end of the setup load. An image that fails its checks leaves the station in SETUP-FAULT with the first code that
fails and its location; SETUP and STATE are raised and nothing of the image is handed out (R180, R181). One that passes is
handed out to every block, and the lines decide where READY leads: PARKED with the eject line high, LISTENING in start mode
AUTO or with the start line high, READY otherwise (R66, R138, R177, R180, R182). -/
def Obligations.SetupLoadEndsByTheImage : Prop :=
  (∀ (straps : StationId) (supplied : List Byte) (s : State) (code : FaultCode) (location : Option Channel),
    s.powered = true → settled s = true → s.station.state = .setup → s.setup.outcome = .loading →
    setupCheck supplied = some (code, location) →
    exec (.setupLoadEnd straps supplied) s = .next { s with
      setup := { id := straps, outcome := .faulted, fault := some code, location := location,
                 image := imageOf supplied }
      station := { s.station with state := .setupFault, blockReason := none, leaveOutcome := none, viewOmissions := 0 }
      flags := s.flags ||| flagBit .setup ||| flagBit .state })
  ∧ (∀ (straps : StationId) (supplied : List Byte) (s : State),
    s.powered = true → settled s = true → s.station.state = .setup → s.setup.outcome = .loading →
    setupCheck supplied = none →
    ∃ t, exec (.setupLoadEnd straps supplied) s = .next t
      ∧ t.setup = { s.setup with id := straps, outcome := .good, image := imageOf supplied }
      ∧ t.settings = some (settingsOf (imageOf supplied))
      ∧ t.out = s.out.mapIdx (fun ch c => { c with defn := outDefOf (imageOf supplied) ch })
      ∧ (∀ ch, (t.inb.get ch).defn = inDefOf (imageOf supplied) ch)
      ∧ t.guard = { s.guard with thresholds := imageThresholds (imageOf supplied) }
      ∧ t.trig.settings = triggerSettingsOf (imageOf supplied) ∧ t.trig.filtered = s.pins.lines
      ∧ t.station.state = (if s.pins.eject then .parked
          else if (settingsOf (imageOf supplied)).startMode = .auto ∨ s.pins.start = true then .listening else .ready)
      ∧ t.flags &&& (flagBit .setup ||| flagBit .state) = flagBit .setup ||| flagBit .state
      ∧ t.clock = s.clock ∧ t.trunk = s.trunk ∧ t.framer = s.framer ∧ t.snapshots = s.snapshots
      ∧ t.rollCall = s.rollCall)

/-- A rise of the eject line acts by the station state: PARKED at once from READY, LISTENING, LEARNING and BLOCKED, PARKED
after the withdrawal from JOINING (the switch stays until CUT_OUT: log 12), LEAVING with outcome PARKED from JOINED, the
leave outcome alone in LEAVING, nothing in the other states. The entry to LEAVING queues the LEAVE (R63), and of a source
the HANDOFF that names the best eligible PRESENT station without its trouble flag, or none (R39). The leaving timeout is 8
round periods; where none was adopted it is measured in the image's own, the model's choice (log 47). The withdrawal from
JOINING is that of the leave kind, block by block (R70, logs 23, 39, 50), a HELD inbound channel being treated as resumed
(R129, R137). In PARKED the Roster and the map are clear and the safe line is asserted. A fall takes a PARKED station to
LISTENING and changes nothing but the level in any other state (R66, R175, R176). A rise of the start line takes a READY
station to LISTENING; a rise in any other state, and every fall, changes nothing but the level (R177). A rise of a line that
is high, and a fall of the eject line that is low, change nothing: the model's choice (log 7). -/
def Obligations.DiscreteLinesActByStationState : Prop :=
  (∀ s : State, s.powered = true → settled s = true → s.pins.eject = false →
      (s.station.state ∈ [StationState.ready, .listening, .learning, .blocked, .joining] →
        ∃ t, exec .ejectRise s = .next t ∧ t.station.state = .parked ∧ t.station.blockReason = none
          ∧ safeLine t = true ∧ t.pins = { s.pins with eject := true }
          ∧ (∀ i, t.roster.get i = RosterEntry.cleared) ∧ t.map = LaneMap.cleared
          ∧ (∀ ch, (t.inb.get ch).state = if (s.inb.get ch).state = .closed then .closed else .waiting)
          ∧ (s.station.state ≠ .joining → t.out = s.out ∧ t.guard = s.guard)
          ∧ (s.station.state = .joining → withdrawn .leave s t)
          ∧ t.clock = s.clock ∧ t.framer = s.framer ∧ t.trunk = s.trunk ∧ t.snapshots = s.snapshots)
      ∧ (s.station.state = .joined →
        ∃ t, exec .ejectRise s = .next t ∧ t.station.state = .leaving ∧ t.station.leaveOutcome = some .parked
          ∧ t.progress.leavingDue = some (s.clock.rack + 8 * periodOrOwn s) ∧ t.progress.ownLeaveTaken = false
          ∧ leavePacketsQueued s t
          ∧ t.pins = { s.pins with eject := true } ∧ t.roster = s.roster ∧ t.map = s.map ∧ t.inb = s.inb
          ∧ t.guard = s.guard ∧ t.trig = s.trig ∧ t.clock = s.clock ∧ t.framer = s.framer ∧ t.snapshots = s.snapshots)
      ∧ (s.station.state = .leaving →
        exec .ejectRise s = .next { s with
          pins := { s.pins with eject := true }
          station := { s.station with leaveOutcome := some .parked } })
      ∧ (s.station.state ∈ [StationState.setup, .setupFault, .isolated, .parked] →
        exec .ejectRise s = .next { s with pins := { s.pins with eject := true } }))
  ∧ (∀ s : State, s.powered = true → settled s = true → s.pins.eject = true →
      (s.station.state = .parked →
        ∃ t, exec .ejectFall s = .next t ∧ t.station.state = .listening ∧ safeLine t = false
          ∧ t.pins = { s.pins with eject := false }
          ∧ (∀ i, t.roster.get i = RosterEntry.cleared) ∧ t.map = LaneMap.cleared
          ∧ t.tb.listen = (if eligible s then .running (s.clock.rack + 8 * ownPeriod s) else .idle)
          ∧ t.out = s.out ∧ t.guard = s.guard ∧ t.clock = s.clock ∧ t.framer = s.framer ∧ t.trunk = s.trunk
          ∧ t.snapshots = s.snapshots)
      ∧ (s.station.state ≠ .parked → exec .ejectFall s = .next { s with pins := { s.pins with eject := false } }))
  ∧ (∀ s : State, s.powered = true → settled s = true → s.pins.start = false →
      (s.station.state = .ready →
        ∃ t, exec .startLineRise s = .next t ∧ t.station.state = .listening ∧ t.pins = { s.pins with start := true }
          ∧ t.out = s.out ∧ t.guard = s.guard ∧ t.clock = s.clock ∧ t.framer = s.framer ∧ t.trunk = s.trunk
          ∧ t.snapshots = s.snapshots)
      ∧ (s.station.state ≠ .ready → exec .startLineRise s = .next { s with pins := { s.pins with start := true } }))
  ∧ (∀ s : State, exec .startLineFall s = .next { s with pins := { s.pins with start := false } })
  ∧ (∀ s : State,
      (s.pins.eject = true → exec .ejectRise s = .next s) ∧ (s.pins.eject = false → exec .ejectFall s = .next s)
      ∧ (s.pins.start = true → exec .startLineRise s = .next s))

/-- The watched reference input moves the lock state by the table of R21: appearing takes UNLOCKED and HOLDOVER to
ACQUIRING with 16 periods to run, loss takes ACQUIRING to UNLOCKED and LOCKED to HOLDOVER with 4,096 periods to run, the
end of an acquisition gives LOCKED, the end of a holdover UNLOCKED, at the end of the interval on the local clock. An input
that is not watched, or an event the table gives a dash, moves its pin alone. The end of a hold of rack time, and the end of
blanking, are points the local clock reaches: rack time stands still through a hold (R25, R140). That the ticks up to such a
point pass first is the model's reading (log 2). -/
def Obligations.ReferenceMovesTheLockState : Prop :=
  (∀ (i : RefInput) (s : State), s.powered = true → settled s = true →
    let appears := setReference i true s
    let lost := setReference i false s
    (detectorWatches s = true → watchedInput s = i →
      (s.tb.lock = .unlocked ∨ s.tb.lock = .holdover →
        exec (.referenceAppears i) s = .next { appears with
          tb := { s.tb with lock := .acquiring, lockDue := some (s.clock.ticks + 16 * lockPeriod s) } })
      ∧ (s.tb.lock = .acquiring ∨ s.tb.lock = .locked → exec (.referenceAppears i) s = .next appears)
      ∧ (s.tb.lock = .acquiring →
        exec (.referenceLost i) s = .next { lost with tb := { s.tb with lock := .unlocked, lockDue := none } })
      ∧ (s.tb.lock = .locked →
        exec (.referenceLost i) s = .next { lost with
          tb := { s.tb with lock := .holdover, lockDue := some (s.clock.ticks + 4096 * lockPeriod s) } })
      ∧ (s.tb.lock = .unlocked ∨ s.tb.lock = .holdover → exec (.referenceLost i) s = .next lost))
    ∧ (detectorWatches s = false ∨ watchedInput s ≠ i →
      exec (.referenceAppears i) s = .next appears ∧ exec (.referenceLost i) s = .next lost))
  ∧ (∀ (due : Nat) (s : State), s.powered = true → settled s = true → s.tb.lockDue = some due →
      (s.tb.lock = .acquiring →
        exec .acquisitionComplete s = .next { waitTicks due s with tb := { s.tb with lock := .locked, lockDue := none } })
      ∧ (s.tb.lock = .holdover →
        exec .holdoverExpiry s = .next { waitTicks due s with tb := { s.tb with lock := .unlocked, lockDue := none } })
      ∧ (waitTicks due s).clock.ticks = max s.clock.ticks due)
  ∧ (∀ s : State, s.powered = true → settled s = true →
      (rackTimeBounded s = true →
        exec .rackTimeHoldEnd s = .next { s with
          clock := { s.clock with ticks := max s.clock.ticks s.clock.holdUntil } })
      ∧ (∃ t, exec .blankingEnd s = .next t ∧ t = { s with clock := t.clock }
          ∧ t.clock.ticks = max s.clock.ticks s.trig.blankUntil ∧ blankingRemaining t = 0))

/-- CUT_IN, made between packets when R1 wants the switch INLINE: the gap and the pacing begin anew, the guard begins an
interval with blanking at B (R155), and a JOINING station queues its JOIN (R57) or, for an empty trunk, its TAKEOVER with
the attempt's time begun (R41, R42), which finds its place as R14 says. CUT_OUT, made between packets when R1 wants the
switch CLOSED: the control queue is emptied (R17), a TRIGGER in the pending slot is lost as an overrun (R143), and the
guard's interval ends unjudged with its reports (R155). A change that is not due, or falls in a packet, is not made. The
model's readings: the switch waits for these two commands (log 12), what LEAVE blanking is due goes from one interval to
the next as log 39 says, and the JOIN is admitted where there is room, ahead of packets that wait (log 42). -/
def Obligations.SwitchChangesAreMadeWhenDue : Prop :=
  (∀ s : State, s.powered = true → settled s = true →
      let own : Join := { station := stationId s, eligible := eligible s, rank := ownRank s }
      let trunk := { s.trunk with switch := .inline, gapStart := s.clock.ticks, pace := Pace.fresh }
      let guard := { s.guard with
        interval := if s.framer.framed then .framed else .unframed (s.clock.rack + periodOrOwn s)
        reports := { Reports.empty with leaveAtBegin := s.guard.leaveDue }
        blanking := s.guard.thresholds.blanking }
      (s.trunk.switch = .closed → wantedSwitch s = .inline → s.trunk.sending = none →
        (s.station.state = .joining → s.progress.emptyTrunk = false →
          exec .cutIn s = .next { s with
            trunk := if roomForOrdinary s then { trunk with queue := insertEntry (.join own) s.trunk.queue }
              else { trunk with waiting := s.trunk.waiting ++ [.join own] }
            guard := guard
            progress := { s.progress with joinBoundaries := 0 } })
        ∧ (s.station.state = .joining → s.progress.emptyTrunk = true →
            (∃ t, exec .cutIn s = .next t
              ∧ reservedAdmitted (.takeover true (stationId s) (ownRank s)) s t
              ∧ t.trunk.switch = .inline ∧ t.trunk.gapStart = s.clock.ticks ∧ t.trunk.pace = Pace.fresh
              ∧ t.guard = guard ∧ t.tb = { s.tb with listen := .cutIn (s.clock.rack + 8 * ownPeriod s) }
              ∧ t.station = s.station ∧ t.map = s.map ∧ t.roster = s.roster ∧ t.inb = s.inb ∧ t.mem = s.mem)
            ∧ ((∀ e ∈ s.trunk.queue, entryClass e ≠ .takeover) → s.trunk.queue.length < 8 →
              exec .cutIn s = .next { s with
                trunk := { trunk with
                  queue := insertEntry (.takeover true (stationId s) (ownRank s)) s.trunk.queue }
                guard := guard
                tb := { s.tb with listen := .cutIn (s.clock.rack + 8 * ownPeriod s) } }))
        ∧ (s.station.state ≠ .joining → exec .cutIn s = .next { s with trunk := trunk, guard := guard }))
      ∧ (s.trunk.switch = .inline ∨ wantedSwitch s = .closed ∨ s.trunk.sending ≠ none → exec .cutIn s = .next s))
  ∧ (∀ s : State, s.powered = true → settled s = true →
      (s.trunk.switch = .inline → wantedSwitch s = .closed → s.trunk.sending = none →
        exec .cutOut s = .next { s with
          trunk := { s.trunk with switch := .closed, queue := [], waiting := [], pace := Pace.fresh }
          guard := { s.guard with interval := .none, reports := Reports.empty, leaveDue := s.guard.reports.leaveTaken }
          trig := if s.trig.pendingTrigger.isSome then
              { s.trig with pendingTrigger := none, overruns := min 65535 (s.trig.overruns + 1) }
            else s.trig
          flags := if s.trig.pendingTrigger.isSome then s.flags ||| flagBit .triggerOverrun else s.flags })
      ∧ (s.trunk.switch = .closed ∨ wantedSwitch s = .inline ∨ s.trunk.sending ≠ none → exec .cutOut s = .next s))

/-! ### The round -/

/-- A MARK falls due at the source (R28). The boundary it implies comes first (log 10); where the station is still source
and its position is free and won, the MARK starts with the fields of R28 and R82, the round begins by it, and the next due
time is a period later. Where its position is lost, or the station may not transmit (log 12), the MARK is unsent; at the
third due time in a row the role is dropped for the station that marked within the last round period, or for none with the
source lost (R29); that the timeout then counts from the reception of that station's MARK is the model's reading (log 20),
and that of several such stations it is the last one heard, within a period with both its ends, and that no miss stands
then, the model's choices (logs 87, 97). Where the boundary's judgement ends the role nothing is sent (R27). A first MARK
that frames an unframed trunk has a boundary of its own round, and one that is unsent, its arbitration lost or its position
skipped, leaves the trunk UNFRAMED: the model's choice (log 10). That the ticks up to the due time pass first is the model's
reading (log 2). -/
def Obligations.MarkStartsAtItsDueTime : Prop :=
  (∀ (pair : PairAt) (due : MarkAt) (s : State),
    s.powered = true → s.tb.role = true → s.tb.markDue = some due →
    let u := settleRole (impliedBoundary due.round (waitRack due.time s))
    let lost : Prop := mayTransmit u = false ∨ pairFree pair u = false
      ∨ winsAgainst (positionalKey u) pair.rival = false
    let kept (t : State) : Prop :=
      t.clock = (waitRack due.time s).clock ∧ t.map.entries = u.map.entries ∧ t.map.epoch = u.map.epoch
        ∧ (u.framer.framed = true → t.map = u.map) ∧ t.roster = u.roster ∧ t.mem = s.mem
    (u.tb.role = true → mayTransmit u = true → pairFree pair u = true →
      winsAgainst (positionalKey u) pair.rival = true →
      ∃ t, exec (.markDue pair) s = .next t
        ∧ t.trunk.sending = some {
            packet := .mark {
              source := stationId s, round := due.round, time := due.time, period := s.tb.period
              epoch := u.map.epoch, view := rosterView u, quality := ownQuality u
              pageIndex := u.tb.pageCounter, page := servePage u.map u.tb.pageCounter }
            entry := none, startedAt := t.clock.ticks }
        ∧ t.tb.markDue = some { time := due.time + s.tb.period, round := (due.round + 1) % 65536 }
        ∧ t.tb.pageCounter.val = (u.tb.pageCounter.val + 1) % 12 ∧ t.tb.role = true ∧ t.tb.unsent = u.tb.unsent
        ∧ t.framer.framed = true ∧ t.framer.round = due.round ∧ t.framer.start = due.time
        ∧ t.framer.period = s.tb.period ∧ t.framer.opening = .begun ∧ kept t
        ∧ t.inb = u.inb ∧ t.station = u.station ∧ t.trig = u.trig ∧ t.snapshots = u.snapshots)
    ∧ (u.tb.role = true → lost → u.tb.unsent < 2 →
        ∃ t, exec (.markDue pair) s = .next t ∧ t.tb.unsent = u.tb.unsent + 1 ∧ t.tb.role = true
          ∧ t.trunk.sending = u.trunk.sending
          ∧ t.tb.markDue = some { time := due.time + s.tb.period, round := (due.round + 1) % 65536 }
          ∧ kept t ∧ (u.framer.framed = true → t.framer.round = due.round ∧ t.framer.start = due.time)
          ∧ (u.framer.framed = false → t.framer = u.framer))
    ∧ (u.tb.role = true → lost → 2 ≤ u.tb.unsent →
        ∃ t, exec (.markDue pair) s = .next t ∧ t.tb.role = false ∧ t.tb.markDue = none ∧ t.tb.unsent = 0
          ∧ t.clock = (waitRack due.time s).clock ∧ t.mem = s.mem
          ∧ (∀ j at', u.tb.otherMark = some (j, at') → u.clock.rack ≤ at' + u.tb.period →
              t.tb.designated = some j ∧ t.tb.missed = 0 ∧ t.tb.timeoutBase = at')
          ∧ (u.tb.otherMark = none ∨ (∃ j at', u.tb.otherMark = some (j, at') ∧ at' + u.tb.period < u.clock.rack) →
              t.tb.designated = none ∧ t.framer.framed = false))
    ∧ (u.tb.role = false → ∃ t, exec (.markDue pair) s = .next t ∧ t.tb.role = false ∧ t.framer = u.framer
        ∧ t.trunk.sending = u.trunk.sending ∧ t.map = u.map ∧ t.roster = u.roster ∧ t.mem = s.mem))
  ∧ (∀ (pair : PairAt) (s : State), s.powered = true → settled s = true → s.tb.role = false ∨ s.tb.markDue = none →
      exec (.markDue pair) s = .next s)

/-- The boundary of a begun round: after the blocks' work on the round that ends, the next round begins as reckoned, at the
old start plus the period; after two predicted rounds of a station that expects a MARK none follows (R6, R20, R32). The work,
in a station that this boundary neither isolates nor lets go: a JOINING one counts it (R59), the presence word is on from here
(R52), the trouble hold falls by one (R160), the map counts a boundary since its last resync, drops the mismatch runs not
compared in the round and its strays, and moves no slot (R84 to R86). Pending closes are carried out (R108), and the leave
closing by its outcome (R111); attempts without a candidate complete (R100), refused packets are offered again (R15), and no
other channel changes but to pause or resume (R107). A source whose role the work ends counts unsent due times and a MARK
still in flight as misses, reckoned from the last MARK it sent: the model's choice (log 46; R27, R29, R32). A pending snapshot
is taken last and shows the records as that work left them, the role included (R185). Marks of the roll call begin anew, and
the pacing too where a round follows (R11); after the last reckoned round the count stays, for the unframed rule: the model's
reading (log 76). That the boundary reckons the round, and the MARK's row opens it, is the model's reading (log 10); so are
the order of its work (log 11), that the ticks up to the boundary pass first (log 2), and what an OPENING channel in LEAVING or
with a close pending chooses (log 22). -/
def Obligations.BoundaryBeginsTheNextRound : Prop :=
  ∀ s : State, s.powered = true → s.framer.framed = true → s.framer.opening = .begun →
    ∃ t, exec .roundBoundary s = .next t
      ∧ t.framer = (if expects t = true ∧ 2 ≤ t.tb.missed then { s.framer with opening := .closed }
          else { s.framer with
            round := (s.framer.round + 1) % 65536, start := s.framer.start + s.framer.period
            position := .mark, opening := .reckoned })
      ∧ (s.tb.role = false → expects t = expects s ∧ t.tb.missed = s.tb.missed)
      ∧ (s.tb.role = true → t.tb.role = true → t.tb.missed = s.tb.missed)
      ∧ (s.tb.role = true → t.tb.role = false → t.tb.designated = none ∧ t.tb.markDue = none
          ∧ t.tb.missed = min 2 (s.tb.unsent + if markInFlight s then 1 else 0) ∧ t.tb.timeoutBase = s.tb.lastSent)
      ∧ t.clock = (waitRack (s.framer.start + s.framer.period) s).clock
      ∧ (∀ i, t.rollCall.get i = { inCall := false, heard := false })
      ∧ t.trunk.pace = (if expects t = true ∧ 2 ≤ t.tb.missed then s.trunk.pace else Pace.fresh)
      ∧ (s.snapshots.pending = true → t.snapshots.pending = false ∧ ∃ x, t.snapshots.copy = some x
          ∧ x.round = t.framer.round ∧ x.time = t.clock.rack ∧ x.framed = true ∧ x.roster = t.roster
          ∧ x.slots = t.map.entries ∧ x.map = mapRecord t ∧ x.guard = t.guard
          ∧ (settled s = true → x.timebase = timebaseRecord t))
      ∧ (s.snapshots.pending = false → t.snapshots = s.snapshots)
      ∧ t.mem = s.mem ∧ t.pins = s.pins ∧ t.trunk.switch = s.trunk.switch ∧ t.trunk.sending = s.trunk.sending
      ∧ t.frame = s.frame ∧ t.service = s.service ∧ t.setup = s.setup ∧ t.settings = s.settings
      ∧ ((guardBoundary s).guard.state ≠ .isolated → ¬(s.station.state = .leaving ∧ s.progress.ownLeaveTaken = true) →
          (s.station.state ≠ .learning → t.station = s.station)
          ∧ (s.station.state = .joining → s.trunk.switch = .inline → s.progress.emptyTrunk = false →
              t.progress.joinBoundaries = min 8 (s.progress.joinBoundaries + 1))
          ∧ t.progress.presenceOn = delivers s
          ∧ t.guard.troubleHold = s.guard.troubleHold - 1
          ∧ (t.guard.trouble = true ↔ t.guard.state = .quiet ∨ 1 < s.guard.troubleHold)
          ∧ t.map.boundariesSince = min 12 (s.map.boundariesSince + 1) ∧ t.map.stray = 0
          ∧ (∀ i, t.map.mismatch.get i = if s.map.compared.get i then s.map.mismatch.get i else 0)
          ∧ (∀ i, t.map.compared.get i = false) ∧ t.map.entries = s.map.entries ∧ t.map.epoch = s.map.epoch
          ∧ (∀ ch, (s.out.get ch).closePending = true → channelClosed .closed ch s t)
          ∧ (∀ ch, s.station.state = .leaving → s.progress.leaveClosingDue = true →
              isOpenState (s.out.get ch).state = true → (s.out.get ch).closePending = false →
              channelClosed (if s.station.leaveOutcome = some .listening then .lost else .closed) ch s t)
          ∧ (∀ ch, let c := s.out.get ch
              c.closePending = false → c.emptyAttempt = false →
              s.progress.leaveClosingDue = false ∨ isOpenState c.state = false →
              { t.out.get ch with state := c.state } = c
                ∧ (c.state ≠ .opened → c.state ≠ .openShort → c.state ≠ .paused → t.out.get ch = c))
          ∧ (settled s = true →
              (s.station.state ≠ .leaving → s.progress.leaveClosingDue = false → attemptsCompleted s t)
              ∧ offeredAgain (fun e => s.progress.leaveClosingDue = false
                  ∧ ∀ ch, isClaimOf ch e = true → (s.out.get ch).closePending = false) s t))

/-- At a boundary every entry but the station's own that was in the roll call and sent no presence word gains a miss, and
at the third becomes ABSENT with a departure report and its last trigger sequence removed; the other entries stay (R46,
R53, R144). The rule is of stations that keep a Roster; one that this very boundary isolates or lets go is not among
them. -/
def Obligations.MissesAreCountedAtTheBoundary : Prop :=
  ∀ (i : StationId) (s : State), s.powered = true → s.framer.framed = true → s.framer.opening = .begun →
    takesTables s = true → (guardBoundary s).guard.state ≠ .isolated →
    ¬ (s.station.state = .leaving ∧ s.progress.ownLeaveTaken = true) →
    let e := s.roster.get i
    ∃ t, exec .roundBoundary s = .next t
      ∧ (i ≠ stationId s → (s.rollCall.get i).inCall = true → (s.rollCall.get i).heard = false → e.state ≠ .absent →
          (e.miss < 2 → t.roster.get i = { e with miss := e.miss + 1 })
          ∧ (2 ≤ e.miss → t.roster.get i = { e with state := .absent, miss := 0, joinedRound := none }
              ∧ i ∈ t.map.departures ∧ t.trig.lastSeq.get i = none))
      ∧ (i = stationId s ∨ (s.rollCall.get i).inCall = false ∨ (s.rollCall.get i).heard = true ∨ e.state = .absent →
          t.roster.get i = e)

/-- The 8th boundary in JOINING without the own JOIN taken: the admission kind of withdrawal, then LISTENING with the join
failure counted, or BLOCKED for JOIN-FAIL at the third (R59, R70); the switch stays until CUT_OUT (log 12). The leaving
timeout, run out before the own LEAVE is taken: the leave timeout is counted, the withdrawal of the outcome's kind, and
PARKED or LISTENING (R65, R70). That the ticks up to its due time pass first is the model's reading (log 2). -/
def Obligations.TimeoutsEndJoiningAndLeaving : Prop :=
  ∀ s : State, s.powered = true → settled s = true →
    (s.station.state = .joining → s.progress.emptyTrunk = false → 8 ≤ s.progress.joinBoundaries →
      ∃ t, exec .joiningTimeout s = .next t
        ∧ (s.station.joinFails < 2 → t.station.state = .listening ∧ t.station.joinFails = s.station.joinFails + 1)
        ∧ (2 ≤ s.station.joinFails → t.station.state = .blocked ∧ t.station.blockReason = some .joinFail)
        ∧ (∀ i, t.roster.get i = RosterEntry.cleared) ∧ t.map = LaneMap.cleared ∧ t.guard.state = .clear
        ∧ t.trig.pendingTrigger = none ∧ t.out = s.out ∧ t.trunk = s.trunk ∧ t.clock = s.clock ∧ t.framer = s.framer
        ∧ t.mem = s.mem ∧ t.snapshots = s.snapshots)
    ∧ (s.station.state ≠ .joining ∨ s.progress.emptyTrunk = true ∨ s.progress.joinBoundaries < 8 →
        exec .joiningTimeout s = .next s)
    ∧ (∀ due, s.progress.leavingDue = some due → s.station.state = .leaving → s.progress.ownLeaveTaken = false →
      ∃ t, exec .leavingTimeout s = .next t
        ∧ t.station.leaveTimeouts = min 255 (s.station.leaveTimeouts + 1)
        ∧ (s.station.leaveOutcome = some .parked → t.station.state = .parked
            ∧ (∀ ch, (t.out.get ch).state = .closed ∨ (t.out.get ch).state = .lost))
        ∧ (s.station.leaveOutcome = some .listening → t.station.state = .listening
            ∧ (∀ ch, (s.out.get ch).state ∈ [OutState.opening, .opened, .openShort, .paused, .closing] →
                (t.out.get ch).state = .lost ∧ (t.out.get ch).queue = (s.out.get ch).queue))
        ∧ t.clock = (waitRack due s).clock ∧ (∀ i, t.roster.get i = RosterEntry.cleared) ∧ t.map = LaneMap.cleared
        ∧ t.guard.state = .clear ∧ t.guard.trip = s.guard.trip ∧ t.tb.role = false ∧ t.framer = s.framer
        ∧ t.mem = s.mem ∧ t.snapshots = s.snapshots)
    ∧ (s.progress.leavingDue = none ∨ s.station.state ≠ .leaving ∨ s.progress.ownLeaveTaken = true →
        exec .leavingTimeout s = .next s)

/-- The start of the roll call, 160 ticks into the round: the departures that awaited it are applied to the map of a
station that keeps one (R74, R78). Every slot of a departed station is free, the others stay as they were, and the epoch
rises by one for each departed station that held a slot (R73). A channel that was RECEIVING or HELD and whose stream so loses
its last slot learns it: it stays HELD or is WAITING, with no stream holder and, in JOINED and LEAVING, an ENDED record of
no words (R120, R135). The entries that are not ABSENT are in the call (R53). That the ticks up to the position pass first
is the model's reading (log 2); that the departures are applied after a resync failure too is its choice (log 72). -/
def Obligations.RollCallStartAppliesDepartures : Prop :=
  ∀ s : State, s.powered = true → settled s = true → positionComes .rollCallBegin s = true →
    let departed (l : Slot) : Prop :=
      ∃ h, (slotEntry s.map l).holding = some h ∧ h.holder ∈ s.map.departures
    let freeing := s.map.departures.eraseDups.filter fun i => heldCount s.map.entries i != 0
    ∃ t, exec .rollCallStart s = .next t
      ∧ t.framer = { s.framer with position := .rollCallBegin }
      ∧ t.clock = (waitRack (s.framer.start + 160) s).clock
      ∧ t.map.departures = []
      ∧ (takesTables s = true → (∀ l, departed l → slotEntry t.map l = SlotEntry.free)
          ∧ (freeing ≠ [] → t.map.epoch = (s.map.epoch + freeing.length) % 65536))
      ∧ (∀ l, ¬departed l → slotEntry t.map l = slotEntry s.map l)
      ∧ (freeing = [] ∨ takesTables s = false → t.map = { s.map with departures := [] } ∧ t.inb = s.inb)
      ∧ (inRack s = true → ∀ ch, let c := s.inb.get ch
          streamCount s.map.entries c.defn.stream ≠ 0 → streamCount t.map.entries c.defn.stream = 0 →
          c.state = .receiving ∨ c.state = .held →
            (t.inb.get ch).state = (if c.state = .held then .held else .waiting) ∧ (t.inb.get ch).holder = none
            ∧ (delivers s = true → c.endSeen = false → c.log.length < 16 →
                ∃ d, (t.inb.get ch).log = c.log ++ [d] ∧ d.flags.ended = true ∧ d.count = 0 ∧ d.offset = none
                  ∧ d.time = t.clock.rack ∧ d.tag = c.lastTag.getD 0)
            ∧ (delivers s = false ∨ c.endSeen = true → (t.inb.get ch).log = c.log))
      ∧ (∀ ch, streamCount s.map.entries (s.inb.get ch).defn.stream = 0
            ∨ streamCount t.map.entries (s.inb.get ch).defn.stream ≠ 0 → t.inb.get ch = s.inb.get ch)
      ∧ (∀ i, (t.rollCall.get i).inCall = ((s.roster.get i).state != .absent))
      ∧ t.roster = s.roster ∧ t.out = s.out ∧ t.tb = s.tb ∧ t.trunk = s.trunk ∧ t.guard = s.guard ∧ t.mem = s.mem
      ∧ t.station = s.station ∧ t.trig = s.trig ∧ t.snapshots = s.snapshots

/-- A JOINED or LEAVING station whose presence is on starts its presence word at its own roll-call position, if it may
transmit and the pair is free there, with the values current then, and at that start its own Roster entry takes them (R47,
R52). The word goes on unless a better key starts with it (R12). A position lost to a packet on the pair passes unused (R8).
The model's readings: the ticks up to the position pass first (log 2), and a station whose cut-out is due sends nothing
(log 12). -/
def Obligations.PresenceWordIsSent : Prop :=
  ∀ (pair : PairAt) (s : State), s.powered = true → settled s = true →
    positionComes (.rollCall (stationId s)) s = true →
    let u := waitRack (s.framer.start + (160 + 16 * (stationId s).val)) s
    let p : Presence :=
      { station := stationId s, state := if s.station.state = .leaving then .leaving else .joined
        lock := s.tb.lock, guard := wordGuard s.guard.state
        eligible := eligible s && s.station.state != .leaving, rank := ownRank s, trouble := s.guard.trouble
        held := heldCount s.map.entries (stationId s) }
    (delivers s = true → s.progress.presenceOn = true → mayTransmit s = true → pairFree pair s = true →
      exec (.rollCallPosition pair) s = .next { u with
        framer := { s.framer with position := .rollCall (stationId s) }
        roster := s.roster.modify (stationId s) fun e => { e with
          eligible := p.eligible, rank := p.rank, lock := p.lock, guard := p.guard, trouble := p.trouble
          held := p.held, lastHeard := some s.framer.round }
        trunk := { s.trunk with
          sending := if winsAgainst (positionalKey s) pair.rival then
              some { packet := .presence p, entry := none, startedAt := u.clock.ticks }
            else none } })
    ∧ (delivers s = false ∨ s.progress.presenceOn = false ∨ mayTransmit s = false ∨ pairFree pair s = false →
      exec (.rollCallPosition pair) s =
        .next { u with framer := { s.framer with position := .rollCall (stationId s) } })

/-- In a lane whose slot this station holds, the channel bound to it starts a SAMPLE of up to 16 words from the head of its
queue under its next tag, with the flags and notes of R105; the words are counted sent (R104 to R106). The conditions are
those of R104: FRAMED, INLINE, guard CLEAR or WATCH, no resync, the channel OPEN or OPEN-SHORT with words, the pair quiet.
The packet goes on unless a better key starts with it, and is spent either way: the model's choice (log 51). The one that
ends a drain carries LAST, and the channel is CLOSING with a RELEASE for its slots (R109). Nothing else of any channel
changes. A lane that fails a condition, or whose slot is not held or not bound, stays silent and changes nothing (R8, R104).
The model's readings: the ticks up to the lane pass first (log 2), and a station whose cut-out is due sends nothing
(log 12). -/
def Obligations.SampleIsSentInItsSlot : Prop :=
  ∀ (l : Lane) (pair : PairAt) (s : State), s.powered = true → settled s = true →
    positionComes (.lane l) s = true →
    let slot : Slot := ⟨l, phaseOf s.framer.round⟩
    let own : Prop := heldBy (stationId s) (slotEntry s.map slot) = true
    let may (c : OutChannel) : Prop :=
      s.trunk.switch = .inline ∧ inRack s = true ∧ (s.guard.state = .clear ∨ s.guard.state = .watch)
        ∧ s.map.resync = .none ∧ (c.state = .opened ∨ c.state = .openShort) ∧ c.queue ≠ []
        ∧ pair.busy = false ∧ s.trunk.sending = none
    (∀ ch, channelOf s slot = some ch →
      let c := s.out.get ch
      let ends : Prop := c.drain = true ∧ c.queue.length ≤ 16
      own → may c →
      ∃ t, exec (.laneStart l pair) s = .next t
        ∧ (∃ head, c.queue.head? = some head ∧ t.trunk.sending =
            if winsAgainst (positionalKey s) pair.rival then some {
              packet := .sample {
                holder := stationId s, stream := c.defn.stream, lane := l, tag := c.nextTag, time := head.time
                flags := { first := c.firstPending, last := c.drain && decide (c.queue.length ≤ 16)
                           freeTime := head.lock == .unlockedTime, timeStep := c.timeStep, dropped := c.dropped }
                words := (c.queue.take 16).map (·.word) }
              entry := none, startedAt := t.clock.ticks }
            else none)
        ∧ (t.out.get ch).queue = c.queue.drop 16 ∧ (t.out.get ch).nextTag = (c.nextTag + 1) % 4096
        ∧ (t.out.get ch).sent = min 281474976710655 (c.sent + min 16 c.queue.length)
        ∧ (t.out.get ch).packets = min 281474976710655 (c.packets + 1)
        ∧ (t.out.get ch).firstPending = false ∧ (t.out.get ch).timeStep = false ∧ (t.out.get ch).dropped = false
        ∧ (t.out.get ch).slots = c.slots
        ∧ (¬ends → (t.out.get ch).state = c.state ∧ t.trunk.queue = s.trunk.queue
            ∧ t.trunk.waiting = s.trunk.waiting)
        ∧ (ends → (t.out.get ch).state = .closing ∧ (t.out.get ch).closingTo = some .closed
            ∧ (t.out.get ch).drain = false
            ∧ .release (some ch) { station := stationId s, stream := c.defn.stream, slots := c.slots }
                ∈ t.trunk.queue ++ t.trunk.waiting)
        ∧ (∀ k, k ≠ ch → t.out.get k = s.out.get k)
        ∧ t.framer = { s.framer with position := .lane l }
        ∧ t.clock = (waitRack (s.framer.start + (416 + 56 * l.val)) s).clock
        ∧ t.map = s.map ∧ t.roster = s.roster ∧ t.inb = s.inb ∧ t.mem = s.mem ∧ t.guard = s.guard ∧ t.trig = s.trig
        ∧ t.station = s.station ∧ t.tb = s.tb ∧ t.snapshots = s.snapshots)
    ∧ (¬own ∨ channelOf s slot = none ∨ (∃ ch, channelOf s slot = some ch ∧ ¬may (s.out.get ch)) →
        exec (.laneStart l pair) s = .next { waitRack (s.framer.start + (416 + 56 * l.val)) s with
          framer := { s.framer with position := .lane l } })

/-- At an opportunity of the open window, and at the end of a quiet gap of an unframed trunk, a station that may offer
starts the packet of its best candidate if no better key contends, and has then sent its one control packet; a packet that
loses stays in its queue (R10 to R13). It may offer while INLINE in the rack with its guard CLEAR or WATCH and nothing in
flight, if it has sent none in this round or, on an unframed trunk, has heard a whole packet or seen three gaps since (R11,
R13). The candidate is the queue's head or the pending TRIGGER, HANDOFF and TAKEOVER going ahead of it and the other kinds
behind; its last fields are filled at the start (R13, R34, R39, R41), the period of a TAKEOVER with the image's own where
none was adopted: the model's choice (log 47), as is the number 1 of the first round where none was begun (log 102). At the
end of a gap attempts without a candidate complete and packets refused admission are offered again (R15, R100); that both
come before the station offers is the model's choice (log 85), and so is that the channels choose again from 0 to 7 (log
91). No gap's end is an opportunity within the 64 ticks before the MARK that a TAKEOVER or HANDOFF made it expect (R10). The
model's readings: gaps on the local clock (log 36), the repeater on again (log 28), ticks that pass first (log 2), no busy
pair at an opportunity of the window (log 52), nothing offered once a cut-out is due (log 12), and in a HANDOFF on an
UNFRAMED trunk the round last held (log 68). -/
def Obligations.ControlPacketIsOffered : Prop :=
  let may (s : State) : Prop :=
    s.trunk.switch = .inline ∧ inRack s = true ∧ (s.guard.state = .clear ∨ s.guard.state = .watch)
      ∧ s.trunk.sending = none
      ∧ (s.trunk.pace.sent = false
          ∨ (s.framer.framed = false ∧ (s.trunk.pace.heard = true ∨ 3 ≤ s.trunk.pace.gaps)))
  let best (s : State) (p : Packet) (e : Option QueueEntry) (c : ArbClass) : Prop :=
    (∃ x rest, s.trunk.queue = x :: rest ∧ p = entryPacket x s ∧ e = some x ∧ c = entryClass x
      ∧ (s.trig.pendingTrigger = none ∨ entryClass x = .handoff ∨ entryClass x = .takeover))
    ∨ (∃ k, s.trig.pendingTrigger = some k ∧ p = .trigger k ∧ e = none ∧ c = .trigger
      ∧ ∀ x rest, s.trunk.queue = x :: rest → entryClass x ≠ .handoff ∧ entryClass x ≠ .takeover)
  let nothing (s : State) : Prop := s.trunk.queue = [] ∧ s.trig.pendingTrigger = none
  let skips (s : State) : Prop :=
    ∃ e, s.tb.expected = some e ∧ e.time + s.tb.missed * s.tb.period ≤ s.clock.rack + 64
      ∧ s.clock.rack ≤ e.time + s.tb.missed * s.tb.period
  let started (u : State) (p : Packet) (e : Option QueueEntry) : State := { u with trunk := { u.trunk with
    sending := some { packet := p, entry := e, startedAt := u.clock.ticks }
    pace := { sent := true, gaps := 0, heard := false } } }
  (∀ (k : Fin 4) (rival : Option ArbKey) (s : State), s.powered = true → settled s = true →
    positionComes (.window k) s = true →
    let u := { waitRack (s.framer.start + (1760 + 60 * k.val)) s with
      framer := { s.framer with position := .window k } }
    (∀ p e c, may s → best u p e c →
      exec (.contentionOpportunity k rival) s =
        .next (if winsAgainst { cls := c, station := stationId s } rival then started u p e else u))
    ∧ (¬may s ∨ nothing s → exec (.contentionOpportunity k rival) s = .next u))
  ∧ (∀ (rival : Option ArbKey) (s : State), s.powered = true → settled s = true → s.framer.framed = false →
      s.trunk.sending = none →
      let ran := { waitTicks (s.trunk.gapStart + 64) s with trunk := { s.trunk with
        gapStart := s.trunk.gapStart + 64, repeaterOff := false
        pace := { s.trunk.pace with gaps := s.trunk.pace.gaps + 1 } } }
      let u := reofferWaiting (completeEmptyAttempts ran)
      (s.trunk.waiting = [] → (∀ ch, (s.out.get ch).emptyAttempt = false) → u = ran)
      ∧ (∀ p e c, ¬skips u → may u → best u p e c →
        exec (.quietGapEnd rival) s =
          .next (if winsAgainst { cls := c, station := stationId s } rival then started u p e else u))
      ∧ (skips u ∨ ¬may u ∨ nothing u → exec (.quietGapEnd rival) s = .next u))
  ∧ (∀ (rival : Option ArbKey) (s : State), s.powered = true → settled s = true →
      (s.framer.framed = false → s.trunk.sending = none →
        ∃ t, exec (.quietGapEnd rival) s = .next t
          ∧ t.trunk.gapStart = s.trunk.gapStart + 64 ∧ t.trunk.repeaterOff = false
          ∧ (s.station.state ≠ .leaving → attemptsCompleted s t) ∧ offeredAgain (fun _ => True) s t
          ∧ t.clock = (waitTicks (s.trunk.gapStart + 64) s).clock ∧ t.framer = s.framer ∧ t.tb = s.tb ∧ t.map = s.map
          ∧ t.roster = s.roster ∧ t.inb = s.inb ∧ t.mem = s.mem ∧ t.guard = s.guard ∧ t.trig = s.trig
          ∧ t.station = s.station ∧ t.progress = s.progress ∧ t.snapshots = s.snapshots)
      ∧ (s.framer.framed = true ∨ s.trunk.sending ≠ none → exec (.quietGapEnd rival) s = .next s))
  ∧ (∀ s : State,
      (∀ ch c, entryPacket (.claim ch c) s = .claim c) ∧ (∀ o r, entryPacket (.release o r) s = .release r)
      ∧ (∀ j, entryPacket (.join j) s = .join j) ∧ (∀ l, entryPacket (.leave l) s = .leave l)
      ∧ (∀ j n, entryPacket (.handoff j n) s = .handoff { source := j, successor := n, lastRound := s.framer.round })
      ∧ (∀ j r, entryPacket (.takeover true j r) s = .takeover {
          station := j, rank := r, time := s.clock.rack, period := ownPeriod s, epoch := 0, nextRound := 0 })
      ∧ (∀ j r, entryPacket (.takeover false j r) s = .takeover {
          station := j, rank := r, time := s.clock.rack, epoch := s.map.epoch
          period := if s.tb.period = 0 then ownPeriod s else s.tb.period
          nextRound := (s.framer.round + 1) % 65536 }))

/-! ### Faults of the pair and the guard -/

/-- The four faults the Trunk Interface reports to the guard. An own packet that fails its read-back is an ECHO and ends
(R18); a MARK so lost is unsent, and at three the role is dropped, for the station heard within a period or for none (R29;
the last one heard of several, the model's choice, log 87). A cut-off at the drive limit, 200 ticks after the packet's
start, is a STUCK, which silences a CLEAR or WATCH station at once: QUIET, no source role, no channel OPEN (R19, R159,
R161). A cut repeater and a failed packet of another station are a LINE each (R4, R19). A gathered ECHO or STUCK sets the
trouble hold to 2 and the trouble flag (R160). The model's readings: nothing is gathered without a current interval (log
39), the ticks up to the limit pass first (log 2), a discarded packet is no whole packet for pacing (log 14), the quiet gap
runs from the cut (log 65), and the repeater is on again at the next packet (log 28). -/
def Obligations.FaultsOfThePairAreReported : Prop :=
  ∀ s : State, s.powered = true → settled s = true →
    let counts := s.guard.reports.counts
    let ended := { s.trunk with sending := none, gapStart := s.clock.ticks }
    let echoed := if gathers s = true then
        { s.guard with
          reports := { s.guard.reports with counts := { counts with echo := min 255 (counts.echo + 1) } }
          troubleHold := 2, trouble := true }
      else s.guard
    let lined := if gathers s = true then
        { s.guard with
          reports := { s.guard.reports with counts := { counts with line := min 255 (counts.line + 1) } } }
      else s.guard
    let dropped (u t : State) : Prop :=
      t.tb.role = false ∧ t.tb.unsent = 0 ∧ t.trunk.sending = none ∧ t.clock = u.clock ∧ t.mem = s.mem
        ∧ t.trunk.switch = s.trunk.switch
        ∧ (∀ j at', s.tb.otherMark = some (j, at') → u.clock.rack ≤ at' + s.tb.period → t.tb.designated = some j)
        ∧ (s.tb.otherMark = none ∨ (∃ j at', s.tb.otherMark = some (j, at') ∧ at' + s.tb.period < u.clock.rack) →
            t.tb.designated = none ∧ t.framer.framed = false)
    (∀ x, s.trunk.sending = some x → (∀ m, x.packet ≠ .mark m) →
      exec .readBackFailed s = .next { s with trunk := ended, guard := echoed })
    ∧ (∀ m e st, s.trunk.sending = some ⟨.mark m, e, st⟩ →
      (s.tb.role = false → exec .readBackFailed s = .next { s with trunk := ended, guard := echoed })
      ∧ (s.tb.role = true → s.tb.unsent < 2 →
          exec .readBackFailed s = .next { s with
            trunk := ended, guard := echoed, tb := { s.tb with unsent := s.tb.unsent + 1 } })
      ∧ (s.tb.role = true → 2 ≤ s.tb.unsent →
          (∃ t, exec .readBackFailed s = .next t ∧ dropped s t)
          ∧ (∃ t, exec .driveLimitCutOff s = .next t ∧ dropped (waitTicks (st + 200) s) t)))
    ∧ (s.trunk.sending = none →
        exec .readBackFailed s = .next s ∧ exec .driveLimitCutOff s = .next s)
    ∧ (∀ x, s.trunk.sending = some x → gathers s = true → (∀ m, x.packet ≠ .mark m) ∨ s.tb.unsent < 2 →
        s.guard.state = .clear ∨ s.guard.state = .watch →
        ∃ t, exec .driveLimitCutOff s = .next t ∧ t.trunk.sending = none
          ∧ t.clock = (waitTicks (x.startedAt + 200) s).clock ∧ t.trunk.gapStart = t.clock.ticks
          ∧ t.guard.state = .quiet ∧ t.guard.clean = 0 ∧ t.guard.trouble = true ∧ t.guard.troubleHold = 2
          ∧ t.guard.reports.counts = { counts with stuck := min 255 (counts.stuck + 1) }
          ∧ t.guard.faults = s.guard.faults ∧ t.guard.quietEntries = min 255 (s.guard.quietEntries + 1)
          ∧ t.tb.role = false ∧ t.tb.election = .idle
          ∧ (∀ ch, (t.out.get ch).state ≠ .opened ∧ (t.out.get ch).state ≠ .openShort)
          ∧ t.flags &&& flagBit .guard = flagBit .guard ∧ t.mem = s.mem)
    ∧ (∀ x, s.trunk.sending = some x → gathers s = true → s.guard.state = .quiet → (∀ m, x.packet ≠ .mark m) →
        exec .driveLimitCutOff s = .next { waitTicks (x.startedAt + 200) s with
          trunk := { s.trunk with sending := none, gapStart := max s.clock.ticks (x.startedAt + 200) }
          guard := { s.guard with
            clean := 0, troubleHold := 2, trouble := true
            reports := { s.guard.reports with
              counts := { counts with stuck := min 255 (counts.stuck + 1) } } } })
    ∧ (s.trunk.switch = .inline → exec .repeaterCutOff s = .next { s with
        trunk := { s.trunk with repeaterOff := true, gapStart := s.clock.ticks }, guard := lined })
    ∧ (s.trunk.switch = .closed → exec .repeaterCutOff s = .next s)
    ∧ (∀ heard, classify heard = .discarded → exec (.failedPacketReceived heard) s = .next { s with
        trunk := { s.trunk with gapStart := s.clock.ticks, repeaterOff := false }, guard := lined })

/-- The judgement of an interval. It is blanked while blanking remains, when a JOIN or LEAVE was taken in it, when LEAVE
blanking was due as it began, or by a joined report (R156); otherwise one ECHO, one STUCK or two LINE fault it (R157). The
counts and the state move by Table 8-2 (R158), an entry to QUIET is counted, and ISOLATED moves the station too, with the
trip record (R164, R165): the own slots leave the map, the open outbound channels are LOST, the Roster is held, delivery
stops and the safe line is asserted (R68, R80, R112; what a LOST channel keeps of a close is log 60, its FIRST pending and
last claim outcome log 93, the lists of a CONFLICT channel log 23). An UNFRAMED period is judged at its end and the next
begins at once, one period long; the FRAMED interval is judged at the round boundary, and one for the new round begins, also
where the cut-out of an isolated station will end it (R155). That the ticks up to the end pass first is the model's reading
(log 2). -/
def Obligations.GuardJudgesEachInterval : Prop :=
  let moves (k : IntervalKind) (next : State → Interval) (s t : State) : Prop :=
    let g := s.guard
    let r := g.reports
    let blanked := g.blanking ≠ 0 ∨ r.joinOrLeave = true ∨ r.leaveAtBegin = true ∨ r.blanked = true
    let faulted := 1 ≤ r.counts.echo ∨ 1 ≤ r.counts.stuck ∨ 2 ≤ r.counts.line
    let c := min 63 (g.faults + 1)
    let n := min 15 (g.clean + 1)
    t.guard.blanking = g.blanking - 1
    ∧ (t.guard.last.map fun j => (j.kind, j.round, j.counts)) = some (k, s.framer.round, r.counts)
    ∧ (blanked → t.guard.state = g.state ∧ t.guard.faults = g.faults ∧ t.guard.clean = g.clean
        ∧ t.guard.faulted = g.faulted ∧ t.guard.last.map (·.result) = some .blanked)
    ∧ (¬blanked → faulted → t.guard.faults = c ∧ t.guard.clean = 0 ∧ t.guard.faulted = min 65535 (g.faulted + 1)
        ∧ t.guard.last.map (·.result) = some .faulted
        ∧ (g.state = .clear ∨ g.state = .watch →
            t.guard.state = if g.thresholds.quiet ≤ c then .quiet else .watch)
        ∧ (g.state = .quiet → t.guard.state = if g.thresholds.isolate ≤ c then .isolated else .quiet))
    ∧ (¬blanked → ¬faulted → t.guard.faults = 0 ∧ t.guard.clean = n ∧ t.guard.faulted = g.faulted
        ∧ t.guard.last.map (·.result) = some .clean
        ∧ (g.state = .clear ∨ g.state = .watch → t.guard.state = .clear)
        ∧ (g.state = .quiet → t.guard.state = if g.thresholds.recover ≤ n then .clear else .quiet))
    ∧ t.guard.interval = next t ∧ t.guard.reports.counts = ReportCounts.zero
    ∧ (t.guard.state = .isolated → isolationEntered s t
        ∧ (t.guard.trip.map fun x => (x.round, x.kind, x.time, x.state, x.counts, x.faults))
            = some (s.framer.round, k, t.clock.rack, s.station.state, r.counts, c))
    ∧ (t.guard.state ≠ g.state → t.flags &&& flagBit .guard = flagBit .guard)
    ∧ t.guard.quietEntries
        = (if t.guard.state = .quiet ∧ g.state ≠ .quiet then min 255 (g.quietEntries + 1) else g.quietEntries)
    ∧ t.mem = s.mem ∧ t.trunk.switch = s.trunk.switch
  ∀ s : State, s.powered = true → s.guard.state ≠ .isolated → s.trunk.switch = .inline →
    (∀ due, s.guard.interval = .unframed due →
      ∃ t, exec .guardPeriodEnd s = .next t ∧ t.clock = (waitRack due s).clock
        ∧ moves .unframed (fun t => .unframed (t.clock.rack + periodOrOwn s)) s t)
    ∧ (s.guard.interval = .framed → s.framer.framed = true → s.framer.opening = .begun →
        ¬ (s.station.state = .leaving ∧ s.progress.ownLeaveTaken = true) →
        ∃ t, exec .roundBoundary s = .next t ∧ moves .framed (fun _ => .framed) s t)

/-! ### Time, source and map -/

/-- A follower takes a valid MARK of another station (R30, R31): of its designated source, of any where none is designated,
or of one whose key, rank and then ID, is better than the designated one's. It corrects rack time by the difference of the
MARK's time and its own at the reception, and a difference of more than 2 ticks sets the time-step note of every channel but
one that closes with it (R25, R26), takes the MARK's period, round and time, designates the sender, and ends its election
and its expectation. One taken in an empty-trunk attempt before the TAKEOVER has passed abandons it: LISTENING, the queued
TAKEOVER withdrawn, Roster and map cleared (R42, R60; that it makes no epoch test and starts no learning is the model's
choice, logs 48, 89). A MARK that frames the trunk has the boundary of its round (R6, log 10), and one that comes after the
last reckoned round begins the count of pacing anew (R11, log 76). The source takes its own MARK at read-back (R29); what it
sets beside the unsent count is the model's reading (log 20), and that it leaves the reference quality recorded is the
model's choice (log 95). A source that hears another's MARK yields to a better key and takes the MARK as a follower, and
otherwise only remembers it (R37); that one such MARK is remembered, the latest, is the model's choice (log 87). In SETUP,
SETUP-FAULT and READY nothing of a MARK is taken (R30). The premise on the framer says that the boundary the MARK implies
has been declared (log 10). -/
def Obligations.MarksAreTaken : Prop :=
  ∀ (m : Mark) (received : Nat) (s : State), s.powered = true → settled s = true →
    let heard := { s.trunk with
      gapStart := s.clock.ticks, pace := { s.trunk.pace with heard := true }, repeaterOff := false }
    let better (r₁ : Nat) (j₁ : StationId) (r₂ : Nat) (j₂ : StationId) : Prop := r₁ < r₂ ∨ (r₁ = r₂ ∧ j₁ < j₂)
    let ignored : Prop := s.station.state = .setup ∨ s.station.state = .setupFault ∨ s.station.state = .ready
    let follows (t : State) : Prop :=
      t.framer.framed = true ∧ t.framer.round = m.round ∧ t.framer.start = m.time ∧ t.framer.period = m.period
        ∧ t.framer.opening = .begun ∧ t.tb.role = false ∧ t.tb.period = m.period ∧ t.tb.lastMark = m.time
        ∧ t.tb.timeoutBase = m.time ∧ t.tb.missed = 0 ∧ t.tb.expected = none ∧ t.tb.election = .idle
        ∧ t.tb.designated = some m.source ∧ t.tb.lastQuality = some m.quality
        ∧ t.progress.lastView = m.view
        ∧ t.clock = (if received ≤ m.time then
            { s.clock with
              rack := min 281474976710655 (s.clock.rack + (m.time - received)), holdUntil := s.clock.ticks }
          else { s.clock with holdUntil := s.clock.ticks + (received - m.time) })
        ∧ (s.map.resync ≠ .gathering ∨ (inRack s = false ∧ s.station.state ≠ .learning) → 2 < m.time - received ∨ 2 < received - m.time →
            ∀ ch, (t.inb.get ch).timeStep = true
              ∧ ((s.out.get ch).emptyAttempt = false → (s.out.get ch).state ≠ .closing ∨ (t.out.get ch).state ≠ .closed →
                  (t.out.get ch).timeStep = true))
        ∧ (s.framer.opening = .closed → t.trunk.pace = Pace.fresh)
        ∧ (s.framer.framed = false → t.trunk.pace = Pace.fresh ∧ t.map.stray = 0
            ∧ (∀ i, t.rollCall.get i = { inCall := false, heard := false })
            ∧ (delivers s = true → t.progress.presenceOn = (s.progress.presenceOn
                || (s.roster.get (stationId s)).joinedRound != some m.round)))
        ∧ (s.station.state = .joining → s.progress.emptyTrunk = true → emptyTrunkAbandoned s t)
        ∧ t.mem = s.mem ∧ t.trunk.switch = s.trunk.switch ∧ t.trunk.sending = s.trunk.sending
    (isOwn (.mark m) s = false → packetInRange (.mark m) = true →
      (ignored → exec (.takeMark m received) s = .next { s with trunk := heard })
      ∧ (¬ignored → s.framer.framed = false ∨ s.framer.opening ≠ .begun ∨ s.framer.round = m.round →
          (s.tb.role = false → s.tb.designated = none ∨ s.tb.designated = some m.source
              ∨ (∃ d, s.tb.designated = some d ∧ better (rankOf m.source s) m.source (rankOf d s) d) →
            ∃ t, exec (.takeMark m received) s = .next t ∧ follows t)
          ∧ (s.tb.role = true → better (rankOf m.source s) m.source (ownRank s) (stationId s) →
            ∃ t, exec (.takeMark m received) s = .next t ∧ follows t))
      ∧ (s.tb.role = false → ¬ignored → (∀ d, s.tb.designated = some d → d ≠ m.source
            ∧ ¬better (rankOf m.source s) m.source (rankOf d s) d) → s.tb.designated ≠ none →
          exec (.takeMark m received) s = .next { s with trunk := heard })
      ∧ (s.tb.role = true → ¬ignored → ¬better (rankOf m.source s) m.source (ownRank s) (stationId s) →
          exec (.takeMark m received) s = .next { s with
            trunk := heard, tb := { s.tb with otherMark := some (m.source, received) } }))
    ∧ (∀ st, s.trunk.sending = some ⟨.mark m, none, st⟩ → s.tb.role = true →
        exec (.takeMark m received) s = .next { s with
          trunk := { s.trunk with sending := none, gapStart := s.clock.ticks }
          tb := { s.tb with
            unsent := 0, lastSent := m.time, lastMark := m.time, timeoutBase := m.time, missed := 0 } })
    ∧ (∀ j, ((s.roster.get j).state ≠ .absent → rankOf j s = (s.roster.get j).rank.val)
        ∧ ((s.roster.get j).state = .absent → s.tb.designated = some j → rankOf j s = s.tb.designatedRank)
        ∧ ((s.roster.get j).state = .absent → s.tb.designated ≠ some j → rankOf j s = 8))

/-- A JOINED follower tests the epoch of a valid MARK, but for a gathering (R83): equal epochs leave the map as it is but
for the result of the test; unequal ones start a resync, with the consecutive count of R86, an empty set of pages and the
MAP flag, unless that count reaches 3, at which the station REJOINs (R69). In RECONCILING the new resync withdraws the
RELEASEs of the old one that have not started (R86); where the third is not started, phase and RELEASEs stay, those in the
queue and those that wait for admission, and a station whose resync failed raises no further cause: the model's reading
(log 38). Where the same MARK fails the roster-view check a second time, the epoch test comes first: the model's choice
(log 56); a count that stands at 3 from JOINING fails the next resync as well (log 78). -/
def Obligations.EpochTestStartsAResync : Prop :=
  ∀ (m : Mark) (received : Nat) (s : State), s.powered = true → settled s = true →
    isOwn (.mark m) s = false → packetInRange (.mark m) = true → s.station.state = .joined → s.tb.role = false →
    s.tb.designated = some m.source → s.framer.framed = true → s.framer.round = m.round →
    s.map.resync = .none ∨ s.map.resync = .reconciling →
    let unchecked : Prop := (m.round + 65535) % 65536 ∉ s.progress.ownWordRounds
    let fewer := s.map.boundariesSince < 12
    let count := if fewer then min 3 (s.map.consecutive + 1) else 1
    (m.epoch = s.map.epoch →
      ∃ t, exec (.takeMark m received) s = .next t ∧ t.map = { s.map with lastTest := some true }
        ∧ (unchecked → t.station = s.station ∧ t.flags = s.flags))
    ∧ (m.epoch ≠ s.map.epoch → s.map.failed = true →
      ∃ t, exec (.takeMark m received) s = .next t ∧ t.map = { s.map with lastTest := some false }
        ∧ (unchecked → t.station = s.station ∧ t.flags = s.flags))
    ∧ (m.epoch ≠ s.map.epoch → s.map.failed = false → count ≠ 3 →
      ∃ t, exec (.takeMark m received) s = .next t
        ∧ t.map = { s.map with
            lastTest := some false, resync := .gathering, gathered := Bank.fill 12 false, gatherMarks := 0
            consecutive := count, outstanding := 0, mismatch := Bank.fill 16 0 }
        ∧ t.flags &&& flagBit .map = flagBit .map ∧ (unchecked → t.station = s.station)
        ∧ (∀ ch, (t.out.get ch).state ≠ .opened ∧ (t.out.get ch).state ≠ .openShort)
        ∧ (s.map.resync = .reconciling → s.trunk.sending = none →
            ∀ e ∈ t.trunk.queue ++ t.trunk.waiting, isReconciliation e = false))
    ∧ (m.epoch ≠ s.map.epoch → s.map.failed = false → count = 3 →
      ∃ t, exec (.takeMark m received) s = .next t ∧ t.station.state = .leaving
        ∧ t.station.leaveOutcome = some .listening ∧ leavePacketsQueued s t
        ∧ t.map = { s.map with lastTest := some false, consecutive := 3, failed := true }
        ∧ (∀ e ∈ s.trunk.queue ++ s.trunk.waiting, isReconciliation e = true → e ∈ t.trunk.queue ++ t.trunk.waiting)
        ∧ t.flags &&& flagBit .map = flagBit .map)

/-- A JOINED follower checks the roster view of a MARK whose round follows one in which its own presence word passed
read-back, a late MARK or another source's as well (R61): a view that holds its ID sets the omission count to 0, a first one
that omits it sets the count to 1, and the second in a row makes it LEAVING with outcome LISTENING (R69), with the LEAVE
queued and the leaving timeout of 8 periods begun (R63). A MARK that is not checked changes no count. The MARKs here pass the
epoch test, so the map asks for nothing. That the last three such rounds are kept is the model's choice (log 41). -/
def Obligations.RosterViewIsChecked : Prop :=
  ∀ (m : Mark) (received : Nat) (s : State), s.powered = true → settled s = true →
    isOwn (.mark m) s = false → packetInRange (.mark m) = true → s.station.state = .joined → s.tb.role = false →
    s.tb.designated = some m.source → s.framer.framed = true → s.framer.round = m.round →
    s.map.resync = .none → m.epoch = s.map.epoch →
    let checked : Prop := (m.round + 65535) % 65536 ∈ s.progress.ownWordRounds
    let listed : Prop := m.view.getLsbD (stationId s).val = true
    (¬checked → ∃ t, exec (.takeMark m received) s = .next t ∧ t.station = s.station)
    ∧ (checked → listed → ∃ t, exec (.takeMark m received) s = .next t
        ∧ t.station = { s.station with viewOmissions := 0 })
    ∧ (checked → ¬listed → s.station.viewOmissions = 0 → ∃ t, exec (.takeMark m received) s = .next t
        ∧ t.station = { s.station with viewOmissions := 1 })
    ∧ (checked → ¬listed → s.station.viewOmissions ≠ 0 → ∃ t, exec (.takeMark m received) s = .next t
        ∧ t.station = { s.station with
            state := .leaving, blockReason := none, leaveOutcome := some .listening, viewOmissions := 0 }
        ∧ leavePacketsQueued s t ∧ t.progress.leavingDue = some (t.clock.rack + 8 * m.period)
        ∧ t.flags &&& flagBit .state = flagBit .state ∧ t.map.entries = s.map.entries)

/-- A gathering, from page to page to its end (R87 to R90). Each record of a MARK's page replaces the entry of its slot,
which keeps its epoch at grant if the holding is the same, and frees every other entry that holds its stream for another
station; the epoch stands (R87; the pages here do not contradict themselves, log 90). At the 24th MARK with indices missing
the gathering starts again, counted as consecutive (R88; the third of a JOINED station REJOINs, R86; that a count which
stands at 3 from JOINING does so too is the model's choice, log 78). The first MARK after all 12 indices sets the epoch, and
its page is not applied (R88). Reconciliation then takes every slot that is not the channel's own from its list, and queues
RELEASEs for the own slots in no list; without any the resync ends at once (R89, R90). Inbound channels are judged again
(R120). The last reconciliation RELEASE taken at read-back ends the resync (R90); that one of an older resync counts like
the others is the model's choice (log 59). -/
def Obligations.GatheringEndsInReconciliation : Prop :=
  (∀ (m : Mark) (received : Nat) (s : State), s.powered = true → settled s = true →
    isOwn (.mark m) s = false → packetInRange (.mark m) = true → inRack s = true → s.progress.emptyTrunk = false →
    s.tb.role = false → s.tb.designated = some m.source → s.framer.framed = true → s.framer.round = m.round →
    s.map.resync = .gathering → s.map.failed = false →
    let count := min 3 (s.map.consecutive + 1)
    let later (k : Fin 12) : Prop := s.map.gathered.get k = false ∧ k ≠ m.pageIndex
    let agreeing (page : Bank 8 (Option Holding)) : Prop := ∀ i j h k, page.get i = some h → page.get j = some k →
      h.stream = k.stream → h.holder = k.holder
    ((∃ k, s.map.gathered.get k = false) → (∀ k, ¬later k) ∨ s.map.gatherMarks + 1 < 24 →
      ∃ t, exec (.takeMark m received) s = .next t ∧ t.map.resync = .gathering ∧ t.map.epoch = s.map.epoch
        ∧ (∀ k, t.map.gathered.get k = (s.map.gathered.get k || decide (k = m.pageIndex)))
        ∧ t.map.gatherMarks = min 24 (s.map.gatherMarks + 1) ∧ t.map.consecutive = s.map.consecutive
        ∧ t.inb = s.inb.map (fun c => { c with
            timeStep := c.timeStep || correctionSteps m.time received })
        ∧ (agreeing m.page →
            (∀ i, t.map.entries.get (pageSlot m.pageIndex i) =
              if (s.map.entries.get (pageSlot m.pageIndex i)).holding = m.page.get i then
                s.map.entries.get (pageSlot m.pageIndex i)
              else { holding := m.page.get i, grantEpoch := none })
            ∧ (∀ x, (∀ i, pageSlot m.pageIndex i ≠ x) → t.map.entries.get x =
              if ∃ i h, m.page.get i = some h ∧ carries h.stream (s.map.entries.get x) = true
                  ∧ heldBy h.holder (s.map.entries.get x) = false then SlotEntry.free
              else s.map.entries.get x)))
    ∧ ((∃ k, later k) → 24 ≤ s.map.gatherMarks + 1 →
        ∃ t, exec (.takeMark m received) s = .next t ∧ t.map.epoch = s.map.epoch ∧ t.map.consecutive = count
          ∧ t.flags &&& flagBit .map = flagBit .map
          ∧ (s.station.state = .joined → count = 3 → t.station.state = .leaving
              ∧ t.station.leaveOutcome = some .listening)
          ∧ (s.station.state ≠ .joined ∨ count ≠ 3 → t.map.resync = .gathering ∧ t.map.gatherMarks = 0
              ∧ ∀ k, t.map.gathered.get k = false))
    ∧ ((∀ k, s.map.gathered.get k = true) →
        ∃ t, exec (.takeMark m received) s = .next t ∧ t.map.epoch = m.epoch ∧ reconciled s t ∧ t.mem = s.mem))
  ∧ (∀ (r : Release) (st : Nat) (s : State), s.powered = true → settled s = true →
      s.trunk.sending = some ⟨.release r, some (.release none r), st⟩ → inRack s = true →
      s.map.resync = .reconciling →
      (s.map.outstanding ≤ 1 → ∃ t, exec (.takeRelease r) s = .next t ∧ t.map.resync = .none
          ∧ t.map.boundariesSince = 0 ∧ t.map.stray = 0 ∧ (∀ i, t.map.mismatch.get i = 0)
          ∧ t.flags &&& flagBit .map = flagBit .map ∧ t.trunk.sending = none)
      ∧ (1 < s.map.outstanding → ∃ t, exec (.takeRelease r) s = .next t ∧ t.map.resync = .reconciling
          ∧ t.map.outstanding = s.map.outstanding - 1 ∧ t.trunk.sending = none))

/-- The admission up to JOINING. A LISTENING station enters LEARNING at a valid MARK if its lock is LOCKED or ACQUIRING or
the MARK's quality is OWN, and stays otherwise (R55). The MARK's page is the first of a cleared map, a record that names the
station being entered as free (R91; the table clause is of pages that do not contradict themselves, log 90); that MARK
counts as the first of the gathering, the model's choice (log 53), as is the Resync state NONE of a learn attempt (log 103).
Each MARK gives one more page (R87), the first after all 12 sets the epoch (R88), and the next is the check: an equal epoch
and no own slot found make the attempt succeed, anything else fails it (R56, R91). A failure starts a fresh map at the
failing MARK, the third one BLOCKS the station for LEARN-FAIL. At the boundary after a success, with three boundaries
counted, the station is JOINING (R57; log 34); any other boundary in LEARNING is counted. -/
def Obligations.LearningLeadsToJoining : Prop :=
  (∀ (m : Mark) (received : Nat) (s : State), s.powered = true → settled s = true →
    isOwn (.mark m) s = false → packetInRange (.mark m) = true → s.tb.role = false →
    s.tb.designated = none ∨ s.tb.designated = some m.source →
    s.framer.framed = false ∨ s.framer.opening ≠ .begun ∨ s.framer.round = m.round →
    let fresh (t : State) : Prop :=
      t.map.epoch = 0 ∧ t.map.resync = .none ∧ t.map.gatherMarks = 1 ∧ t.map.awaitCheck = false
        ∧ (∀ k, t.map.gathered.get k = decide (k = m.pageIndex))
        ∧ t.map.foundOwn = pageNames (stationId s) m.page
        ∧ (∀ x, (∀ i, pageSlot m.pageIndex i ≠ x) → t.map.entries.get x = SlotEntry.free)
        ∧ (∀ i h, m.page.get i = some h → h.holder = stationId s →
            t.map.entries.get (pageSlot m.pageIndex i) = SlotEntry.free)
        ∧ ((∀ i j h k, m.page.get i = some h → m.page.get j = some k → h.stream = k.stream → h.holder = k.holder) →
            ∀ i h, m.page.get i = some h → h.holder ≠ stationId s →
              t.map.entries.get (pageSlot m.pageIndex i) = { holding := some h, grantEpoch := none })
    let failure : Prop := (s.map.awaitCheck = true ∧ (m.epoch ≠ s.map.epoch ∨ s.map.foundOwn = true))
      ∨ (s.map.awaitCheck = false ∧ 24 ≤ s.map.gatherMarks + 1
          ∧ ∃ k, s.map.gathered.get k = false ∧ k ≠ m.pageIndex)
    (s.station.state = .listening →
      let mayLearn : Prop := s.tb.lock = .locked ∨ s.tb.lock = .acquiring ∨ m.quality = .own
      (mayLearn → ∃ t, exec (.takeMark m received) s = .next t ∧ t.station.state = .learning
          ∧ t.station.learnFails = s.station.learnFails ∧ t.progress.learnBoundaries = 0 ∧ t.progress.learned = false
          ∧ t.tb.listen = .idle ∧ fresh t ∧ t.flags &&& flagBit .state = flagBit .state)
      ∧ (¬mayLearn → ∃ t, exec (.takeMark m received) s = .next t ∧ t.station = s.station
          ∧ t.map.entries = s.map.entries ∧ t.roster.list.map (·.state) = s.roster.list.map (·.state)))
    ∧ (s.station.state = .learning → s.progress.learned = false →
        (¬failure → ∃ t, exec (.takeMark m received) s = .next t ∧ t.station = s.station
          ∧ (s.map.awaitCheck = true → t.progress.learned = true ∧ t.map.entries = s.map.entries
              ∧ t.map.epoch = s.map.epoch)
          ∧ (s.map.awaitCheck = false → (∀ k, s.map.gathered.get k = true) →
              t.map.epoch = m.epoch ∧ t.map.awaitCheck = true ∧ t.map.entries = s.map.entries
              ∧ t.progress.learned = false)
          ∧ (s.map.awaitCheck = false → (∃ k, s.map.gathered.get k = false) →
              t.map.epoch = s.map.epoch ∧ t.map.gatherMarks = min 24 (s.map.gatherMarks + 1)
              ∧ (∀ k, t.map.gathered.get k = (s.map.gathered.get k || decide (k = m.pageIndex)))
              ∧ t.map.foundOwn = (s.map.foundOwn || pageNames (stationId s) m.page)
              ∧ t.progress.learned = false))
        ∧ (failure → s.station.learnFails < 2 → ∃ t, exec (.takeMark m received) s = .next t
            ∧ t.station = { s.station with learnFails := s.station.learnFails + 1 } ∧ fresh t
            ∧ t.flags &&& flagBit .map = flagBit .map)
        ∧ (failure → 2 ≤ s.station.learnFails → ∃ t, exec (.takeMark m received) s = .next t
            ∧ t.station.state = .blocked ∧ t.station.blockReason = some .learnFail ∧ t.map = LaneMap.cleared
            ∧ (∀ i, t.roster.get i = RosterEntry.cleared) ∧ t.flags &&& flagBit .map = flagBit .map)))
  ∧ (∀ s : State, s.powered = true → settled s = true → s.station.state = .learning → s.trunk.switch = .closed →
      s.framer.framed = true → s.framer.opening = .begun →
      (s.progress.learned = true → 3 ≤ s.progress.learnBoundaries →
        ∃ t, exec .roundBoundary s = .next t ∧ t.station = { s.station with
              state := .joining, blockReason := none, leaveOutcome := none, viewOmissions := 0 }
          ∧ wantedSwitch t = (if t.guard.state = .isolated then .closed else .inline)
          ∧ t.progress.emptyTrunk = false ∧ t.flags &&& flagBit .state = flagBit .state)
      ∧ (s.progress.learned = false ∨ s.progress.learnBoundaries < 3 →
        ∃ t, exec .roundBoundary s = .next t ∧ t.station = s.station
          ∧ t.progress.learnBoundaries = s.progress.learnBoundaries + 1 ∧ t.progress.learned = s.progress.learned))

/-- The expected MARK is missed at its time: the missed count rises, and the next round begins by prediction, one period
on (R32). A station that expects no MARK, or has counted two, misses nothing. The model's readings: a round whose boundary
was declared already is begun by the miss, and one that was not has its boundary first (log 10); the ticks up to the miss
pass first (log 2). -/
def Obligations.MissedMarkIsPredicted : Prop :=
  ∀ s : State, s.powered = true → settled s = true →
    (expects s = true → s.tb.missed < 2 →
      (s.framer.framed = false → exec .missedMark s = .next { waitRack (missTime s) s with
        tb := { s.tb with missed := s.tb.missed + 1 } })
      ∧ (s.framer.framed = true → s.framer.opening = .reckoned →
          exec .missedMark s = .next { waitRack (missTime s) s with
            framer := { s.framer with opening := .begun }, tb := { s.tb with missed := s.tb.missed + 1 } })
      ∧ (s.framer.framed = true → s.framer.opening = .begun →
          ∃ t, exec .missedMark s = .next t ∧ t.tb.missed = s.tb.missed + 1 ∧ t.framer.framed = true
            ∧ t.framer.round = (s.framer.round + 1) % 65536 ∧ t.framer.start = s.framer.start + s.framer.period
            ∧ t.framer.opening = .begun ∧ t.clock = (waitRack (missTime s) s).clock ∧ t.mem = s.mem))
    ∧ (expects s = false ∨ 2 ≤ s.tb.missed → exec .missedMark s = .next s)
    ∧ (s.tb.expected = none → missTime s = s.tb.timeoutBase + (s.tb.missed + 1) * s.tb.period)
    ∧ (∀ e, s.tb.expected = some e → missTime s = e.time + s.tb.missed * s.tb.period)

/-- Source loss is declared three periods after the last MARK (R32, R33): no source is designated, the trunk is UNFRAMED,
no channel is OPEN, the lost station's Roster entry is ABSENT and its slots are free, and a JOINED, eligible station whose
guard lets it send begins its backoff of (rank + 1) × P / 4 ticks (R34; the image's own period where none was adopted, the
model's choice, log 47). A station that lost its own role names none lost. A pending snapshot is taken at the loss (R20).
A LEARNING station, and a JOINING one but for an empty trunk, is LISTENING again with the admission kind of withdrawal, its
failures not counted (R56, R59, R70; the switch stays until CUT_OUT, log 12), and a HELD inbound channel is treated as
resumed (R129, R137).
Where the trunk turns UNFRAMED by it, quiet gaps and pacing begin there and a JOINED station's guard goes on in an UNFRAMED
period (R10, R11, R155); on a trunk already UNFRAMED none of these is touched. The model's readings: no miss is counted
after the loss (log 19), the ticks up to it pass first (log 2), and slots are freed after a resync failure too (log 72). -/
def Obligations.SourceLossIsDeclared : Prop :=
  ∀ s : State, s.powered = true → settled s = true →
    (expects s = true →
      ∃ t, exec .markTimeout s = .next t ∧ t.tb.role = false ∧ t.tb.designated = none ∧ t.tb.designatedRank = 8
        ∧ t.tb.missed = 0 ∧ t.tb.expected = none ∧ t.framer = { s.framer with framed := false }
        ∧ t.clock = (waitRack (s.tb.timeoutBase + 3 * s.tb.period) s).clock
        ∧ t.flags &&& flagBit .source = flagBit .source
        ∧ (∀ ch, (t.out.get ch).state ≠ .opened ∧ (t.out.get ch).state ≠ .openShort)
        ∧ (∀ j, s.tb.designated = some j → j ≠ stationId s → s.tb.orphan = false → beforeListening s = false →
            (t.roster.get j).state = .absent
            ∧ (takesTables s = true ∨ s.station.state = .isolated → heldCount t.map.entries j = 0))
        ∧ (s.station.state = .joined → t.station.state = .joined
            ∧ (eligible s = true → s.guard.state = .clear ∨ s.guard.state = .watch → s.tb.election = .idle →
                t.tb.election = .backoff (t.clock.rack + ((ownRank s).val + 1) * periodOrOwn s / 4))
            ∧ (s.framer.framed = true → t.trunk.gapStart = t.clock.ticks
                ∧ t.trunk.pace = { s.trunk.pace with gaps := 0 }
                ∧ (s.trunk.switch = .inline → s.guard.interval ≠ .none →
                    t.guard.interval = .unframed (t.clock.rack + periodOrOwn s)))
            ∧ (s.framer.framed = false → t.trunk.gapStart = s.trunk.gapStart ∧ t.trunk.pace = s.trunk.pace
                ∧ t.guard = s.guard))
        ∧ (s.station.state = .learning ∨ (s.station.state = .joining ∧ s.progress.emptyTrunk = false) →
            t.station.state = .listening ∧ rackLeft s t ∧ t.station.learnFails = s.station.learnFails
              ∧ t.station.joinFails = s.station.joinFails ∧ t.trunk.switch = s.trunk.switch
              ∧ t.tb.listen = (if eligible s then .running (t.clock.rack + 8 * ownPeriod s) else .idle)
              ∧ (s.progress.leaveClosingDue = false → ∀ ch, let c := s.out.get ch
                  c.closePending = false → c.state ≠ .opened → c.state ≠ .openShort → t.out.get ch = c))
        ∧ (s.snapshots.pending = true →
            t.snapshots.pending = false ∧ t.snapshots.copy.map (·.framed) = some false)
        ∧ t.mem = s.mem)
    ∧ (expects s = false → exec .markTimeout s = .next s)

/-- The timers of the election and of an empty trunk. A backoff that runs out queues a TAKEOVER of this station, which
finds its place as R14 says (R34). Four periods after a loss SOURCE is raised if the trunk is still unframed with no source
and none expected (R44; that one due time is kept is the model's choice, log 54). The listen of a LISTENING station that runs
out makes it JOINING for its empty-trunk attempt (R41, R60), and an attempt that runs out ends in LISTENING with the TAKEOVER
withdrawn (R42). That the ticks up to a due time pass first, and that a timer which does not run does nothing, is the model's
reading (log 2). -/
def Obligations.ElectionAndListenTimersAct : Prop :=
  ∀ s : State, s.powered = true → settled s = true →
    (∀ due, s.tb.election = .backoff due →
      (∃ t, exec .backoffExpiry s = .next t ∧ t.tb.election = .takeoverQueued
        ∧ reservedAdmitted (.takeover false (stationId s) (ownRank s)) s t
        ∧ t.clock = (waitRack due s).clock ∧ t.framer = s.framer ∧ t.map = s.map ∧ t.roster = s.roster ∧ t.inb = s.inb
        ∧ t.station = s.station ∧ t.guard = s.guard ∧ t.mem = s.mem ∧ t.trunk.sending = s.trunk.sending)
      ∧ ((∀ e ∈ s.trunk.queue, entryClass e ≠ .takeover) → s.trunk.queue.length < 8 →
        exec .backoffExpiry s = .next { waitRack due s with
          tb := { s.tb with election := .takeoverQueued }
          trunk := { s.trunk with
            queue := insertEntry (.takeover false (stationId s) (ownRank s)) s.trunk.queue } }))
    ∧ ((∀ due, s.tb.election ≠ .backoff due) → exec .backoffExpiry s = .next s)
    ∧ (∀ due, s.tb.lossDue = some due →
      exec .unframedSourceTimeout s = .next { waitRack due s with
        tb := { s.tb with lossDue := none }
        flags := if s.framer.framed = false ∧ s.tb.designated = none ∧ s.tb.expected = none then
            s.flags ||| flagBit .source
          else s.flags })
    ∧ (s.tb.lossDue = none → exec .unframedSourceTimeout s = .next s)
    ∧ (∀ due, s.tb.listen = .running due → s.station.state = .listening →
      exec .emptyTrunkListenExpiry s = .next { waitRack due s with
        station := { s.station with
          state := .joining, blockReason := none, leaveOutcome := none, viewOmissions := 0 }
        flags := s.flags ||| flagBit .state
        tb := { s.tb with listen := .ranOut }
        progress := { learnBoundaries := 0, learned := false, joinBoundaries := 0, emptyTrunk := true,
                      leavingDue := none, ownLeaveTaken := false, leaveClosingDue := false, presenceOn := false,
                      ownWordRounds := [], lastView := s.progress.lastView } })
    ∧ ((∀ due, s.tb.listen ≠ .running due) → exec .emptyTrunkListenExpiry s = .next s)
    ∧ (∀ due, s.tb.listen = .cutIn due → s.station.state = .joining → s.progress.emptyTrunk = true →
      ∃ t, exec .emptyTrunkAttemptTimeout s = .next t ∧ t.station.state = .listening
        ∧ t.clock = (waitRack due s).clock ∧ (∀ i, t.roster.get i = RosterEntry.cleared) ∧ t.map = LaneMap.cleared
        ∧ t.guard.state = .clear ∧ t.trunk.queue = s.trunk.queue.filter (fun e => !isTakeover e || inFlight s e)
        ∧ t.tb.listen = (if eligible s then .running (t.clock.rack + 8 * ownPeriod s) else .idle)
        ∧ t.out = s.out ∧ t.framer = s.framer ∧ t.mem = s.mem)
    ∧ ((∀ due, s.tb.listen ≠ .cutIn due) → exec .emptyTrunkAttemptTimeout s = .next s)

/-- A TAKEOVER (R35, R36, R42). A station without a source, or whose source's MARK is overdue and is declared lost first,
designates the sender, adopts its rank and period and expects its MARK one period after the reception; the source, and a
station whose source is in time, ignore it. In JOINING, JOINED and LEAVING the map tests its epoch as a MARK's, against the
map as the loss left it: unequal epochs are a resync cause (R83, R86; what a failed resync keeps is log 38, a count that
stands at 3 from JOINING log 78); in a gathering, and in the other states, no test is made (R83). In an empty-trunk attempt
it abandons the attempt (R42, R60), before any test: the model's choice (log 48). The rank recorded is the TAKEOVER's, the
model's choice (log 49), and no miss stands after it (log 19). That a station that designates itself without the role
ignores it until its MARK is overdue, and that a former source still FRAMED stays so, are the model's choices too (logs 70,
71). SETUP and SETUP-FAULT take none: the blocks hold their values (R179), no packet is taken (R181); that READY takes it is
log 35. The own TAKEOVER at read-back gives the role to a station that still has the conditions of R27, with its first MARK
one period later, and ends a gathering, reconciled at once (R92); without them no role is taken and no source designated
(R36). One of an empty trunk makes the station JOINED first, and source under the same conditions (R42); that it then
designates itself, and that without those conditions its designation stays, are the model's choices (logs 45, 69); so is
that entries made during the attempt become ABSENT at its TAKEOVER, and that the epoch is 0 whatever was granted (log 88).
-/
def Obligations.TakeoverIsTaken : Prop :=
  ∀ (k : Takeover) (received : Nat) (s : State), s.powered = true → settled s = true →
    let heard := { s.trunk with
      gapStart := s.clock.ticks, pace := { s.trunk.pace with heard := true }, repeaterOff := false }
    let early : Prop := s.station.state = .setup ∨ s.station.state = .setupFault
    let sends : Prop := s.trunk.switch = .inline ∧ eligible s = true ∧ (s.guard.state = .clear ∨ s.guard.state = .watch)
    let u := if s.tb.designated = none then { s with trunk := heard } else declareLoss { s with trunk := heard }
    (isOwn (.takeover k) s = false → packetInRange (.takeover k) = true →
      (early ∨ s.tb.role = true ∨ (s.tb.designated ≠ none ∧ overdue s = false) →
        exec (.takeTakeover k received) s = .next { s with trunk := heard })
      ∧ (¬early → s.tb.role = false → s.tb.designated = none ∨ overdue s = true →
        ∃ t, exec (.takeTakeover k received) s = .next t ∧ t.tb.role = false ∧ t.tb.designated = some k.station
          ∧ t.tb.designatedRank = k.rank.val ∧ t.tb.period = k.period ∧ t.tb.timeoutBase = received
          ∧ t.tb.expected = some { time := received + k.period, round := k.nextRound } ∧ t.tb.missed = 0
          ∧ t.tb.election = .idle ∧ t.clock = s.clock
          ∧ (s.tb.designated = none → t.framer = s.framer)
          ∧ (s.tb.designated ≠ none → t.framer = { s.framer with framed := false })
          ∧ (s.station.state = .joining → s.progress.emptyTrunk = true → emptyTrunkAbandoned s t)
          ∧ (inRack u = true → (u.station.state = .joining → u.progress.emptyTrunk = false) →
              (u.map.resync ≠ .gathering → epochTested k.epoch u t)
              ∧ (u.map.resync = .gathering → t.map = u.map ∧ t.station = u.station))
          ∧ (inRack u = false → t.map = u.map ∧ t.station = u.station)
          ∧ t.mem = s.mem ∧ t.trunk.switch = s.trunk.switch))
    ∧ (∀ rank st, s.trunk.sending = some ⟨.takeover k, some (.takeover false (stationId s) rank), st⟩ →
      s.tb.role = false →
      ∃ t, exec (.takeTakeover k received) s = .next t
        ∧ t.trunk.sending = none ∧ t.clock = s.clock ∧ t.framer = s.framer ∧ t.mem = s.mem
        ∧ (sends → s.station.state = .joined → t.tb.role = true ∧ t.tb.designated = some (stationId s)
          ∧ t.tb.period = k.period ∧ t.tb.markDue = some { time := k.time + k.period, round := k.nextRound }
          ∧ t.tb.pageCounter = 0 ∧ t.tb.unsent = 0 ∧ t.tb.expected = none ∧ t.tb.election = .idle
          ∧ t.map.entries = s.map.entries ∧ t.map.epoch = s.map.epoch ∧ roleGainedMap s t)
        ∧ (¬sends ∨ s.station.state ≠ .joined → t.tb.role = false ∧ t.tb.designated = none ∧ t.tb.expected = none
          ∧ t.tb.markDue = s.tb.markDue ∧ t.map = s.map ∧ t.roster = s.roster ∧ t.station = s.station))
    ∧ (∀ id rank st, s.trunk.sending = some ⟨.takeover k, some (.takeover true id rank), st⟩ →
      s.station.state = .joining → s.progress.emptyTrunk = true →
      ∃ t, exec (.takeTakeover k received) s = .next t ∧ t.station.state = .joined
        ∧ t.tb.listen = .idle ∧ (t.roster.get (stationId s)).state = .present
        ∧ (∀ i, i ≠ stationId s → (t.roster.get i).state = .absent)
        ∧ t.station.learnFails = 0 ∧ t.station.joinFails = 0 ∧ t.trunk.sending = none ∧ t.clock = s.clock
        ∧ t.mem = s.mem
        ∧ (sends → t.tb.role = true ∧ t.tb.designated = some (stationId s) ∧ t.tb.period = k.period
          ∧ t.tb.markDue = some { time := k.time + k.period, round := 0 } ∧ t.tb.pageCounter = 0
          ∧ t.map.epoch = 0 ∧ t.map.resync ≠ .gathering)
        ∧ (¬sends → t.tb.role = false ∧ t.tb.designated = s.tb.designated))

/-- A HANDOFF of the designated source (R40). With no successor the trunk is UNFRAMED at once and no source is designated,
no slot and no Roster state being changed for it; another successor is designated, and its MARK expected at the end of the
round, the timeout reckoned as for the sender (its last MARK; where it sent none that was taken, the model's choice, log
96); the named successor itself takes the role if it has the conditions of R27, a gathering ending then, reconciled at once
(R92), and designates itself all the same without them; that it then expects its own MARK, and its Roster marks it as
source, is the model's choice (log 86). A HANDOFF of any other station is ignored. SETUP and SETUP-FAULT take none (R179,
R181); that READY takes it is log 35. The source's own HANDOFF at read-back ends its role for the successor (R39). No miss
stands after it, the model's reading (log 19). That the successor designates itself is the model's choice (log 45); so is
the end of the round last held, where the trunk is UNFRAMED (log 68), and that only a station in the role acts on its own
HANDOFF (log 67). -/
def Obligations.HandoffIsTaken : Prop :=
  ∀ (h : Handoff) (s : State), s.powered = true → settled s = true →
    let heard := { s.trunk with
      gapStart := s.clock.ticks, pace := { s.trunk.pace with heard := true }, repeaterOff := false }
    let early : Prop := s.station.state = .setup ∨ s.station.state = .setupFault
    let due : MarkAt := { time := s.framer.start + s.tb.period, round := (h.lastRound + 1) % 65536 }
    (isOwn (.handoff h) s = false → packetInRange (.handoff h) = true →
      (early ∨ s.tb.role = true ∨ s.tb.designated ≠ some h.source →
        exec (.takeHandoff h) s = .next { s with trunk := heard })
      ∧ (¬early → s.tb.role = false → s.tb.designated = some h.source →
          (h.successor = none → ∃ t, exec (.takeHandoff h) s = .next t ∧ t.tb.designated = none
            ∧ t.tb.expected = none ∧ t.framer = { s.framer with framed := false } ∧ t.clock = s.clock
            ∧ (s.station.state = .joined → s.map.departures = [] →
                t.roster = s.roster ∧ t.map.entries = s.map.entries ∧ t.map.epoch = s.map.epoch)
            ∧ (∀ ch, (t.out.get ch).state ≠ .opened ∧ (t.out.get ch).state ≠ .openShort) ∧ t.mem = s.mem)
          ∧ (∀ j, h.successor = some j → j ≠ stationId s ∨ canGainRole s = false →
              ∃ t, exec (.takeHandoff h) s = .next t ∧ t.tb.role = false ∧ t.tb.designated = some j
                ∧ t.tb.expected = some due ∧ t.tb.missed = 0 ∧ t.tb.timeoutBase = s.tb.timeoutBase
                ∧ t.framer = s.framer ∧ t.clock = s.clock ∧ t.map = s.map
                ∧ (s.station.state ≠ .ready → ∀ i, t.roster.get i = { s.roster.get i with source := decide (i = j) })
                ∧ (s.station.state = .ready → t.roster = s.roster)
                ∧ t.out = s.out ∧ t.inb = s.inb ∧ t.mem = s.mem ∧ t.station = s.station)
          ∧ (h.successor = some (stationId s) → canGainRole s = true →
              ∃ t, exec (.takeHandoff h) s = .next t ∧ t.tb.role = true ∧ t.tb.designated = some (stationId s)
                ∧ t.tb.markDue = some due ∧ t.tb.period = s.tb.period ∧ t.tb.pageCounter = 0 ∧ t.tb.unsent = 0
                ∧ t.tb.expected = none ∧ t.framer = s.framer ∧ t.clock = s.clock
                ∧ t.map.entries = s.map.entries ∧ t.map.epoch = s.map.epoch ∧ roleGainedMap s t ∧ t.mem = s.mem)))
    ∧ (∀ e st, s.trunk.sending = some ⟨.handoff h, e, st⟩ → s.tb.role = true →
        ∃ t, exec (.takeHandoff h) s = .next t ∧ t.tb.role = false ∧ t.tb.designated = h.successor
          ∧ t.trunk.sending = none ∧ t.tb.missed = 0
          ∧ (h.successor ≠ none → t.tb.expected = some due ∧ t.framer = s.framer)
          ∧ (h.successor = none → t.framer = { s.framer with framed := false })
          ∧ t.clock = s.clock ∧ t.mem = s.mem)

/-! ### The Roster -/

/-- A presence word of another station refreshes its entry, which becomes PRESENT, in LEARNING, JOINING, JOINED and LEAVING;
an entry that is ABSENT is admitted in LEARNING alone, and only if the last roster view names the sender (R48). The held
count it carries is compared with the map's: an equal one sets its mismatch run to 0, a first unequal one to 1, and the
second in a row is a cause of a resync (R84), whose count R86 gives; the third of a JOINED station REJOINs, and that a count
which stands at 3 from JOINING does so too is the model's choice (log 78). That words taken while UNFRAMED are compared too
is the model's choice (log 57), as is that those of an empty-trunk attempt refresh (log 88). A word with this station's own
ID that is not its own at read-back blocks it for ID-CONFLICT (R54). The own word at read-back is remembered for the
roster-view check (R61); that the last three rounds are kept is the model's choice (log 41). -/
def Obligations.PresenceWordsMoveTheRoster : Prop :=
  ∀ (p : Presence) (s : State), s.powered = true → settled s = true →
    let e := s.roster.get p.station
    let heard := { s.trunk with
      gapStart := s.clock.ticks, pace := { s.trunk.pace with heard := true }, repeaterOff := false }
    let refreshed : RosterEntry := { e with
      state := .present, eligible := p.eligible, rank := p.rank, lock := p.lock, guard := p.guard
      trouble := p.trouble, held := p.held, miss := 0, lastHeard := some s.framer.round }
    let admitted : Prop := s.station.state = .learning ∧ s.progress.lastView.getLsbD p.station.val = true
    let count := if s.map.boundariesSince < 12 then min 3 (s.map.consecutive + 1) else 1
    (isOwn (.presence p) s = false → packetInRange (.presence p) = true → p.station ≠ stationId s →
      (takesTables s = true → e.state ≠ .absent ∨ admitted →
        ∃ t, exec (.takePresenceWord p) s = .next t
          ∧ (e.state ≠ .absent → t.roster.get p.station = refreshed)
          ∧ (e.state = .absent → t.roster.get p.station = { refreshed with joinedRound := some s.framer.round })
          ∧ (∀ i, i ≠ p.station → t.roster.get i = s.roster.get i)
          ∧ (t.rollCall.get p.station).heard = true ∧ t.map.entries = s.map.entries ∧ t.map.epoch = s.map.epoch
          ∧ t.framer = s.framer ∧ t.clock = s.clock ∧ t.mem = s.mem
          ∧ (heldCount s.map.entries p.station = p.held → t.map.mismatch.get p.station = 0 ∨ t.map = s.map)
          ∧ (inRack s = true → s.tb.role = false → s.map.resync = .none → heldCount s.map.entries p.station = p.held →
              t.map.mismatch.get p.station = 0 ∧ t.map.resync = .none)
          ∧ (inRack s = true → s.tb.role = false → s.map.resync = .none → heldCount s.map.entries p.station ≠ p.held →
              (s.map.mismatch.get p.station = 0 →
                t.map.mismatch.get p.station = 1 ∧ t.map.resync = .none)
              ∧ (s.map.mismatch.get p.station = 1 → s.map.failed = false →
                t.flags &&& flagBit .map = flagBit .map ∧ t.map.consecutive = count
                ∧ (s.station.state ≠ .joined ∨ count ≠ 3 →
                    t.map.resync = .gathering ∧ t.map.gatherMarks = 0 ∧ t.station = s.station)
                ∧ (s.station.state = .joined → count = 3 → t.map.resync = .none ∧ t.station.state = .leaving
                    ∧ t.station.leaveOutcome = some .listening ∧ leavePacketsQueued s t))))
      ∧ (takesTables s = false ∨ (e.state = .absent ∧ ¬admitted) →
          exec (.takePresenceWord p) s = .next { s with trunk := heard }))
    ∧ (isOwn (.presence p) s = false → packetInRange (.presence p) = true → p.station = stationId s →
      (s.station.state ∈ [StationState.listening, .learning, .joining, .joined, .leaving] →
        ∃ t, exec (.takePresenceWord p) s = .next t ∧ t.station.state = .blocked
          ∧ t.station.blockReason = some .idConflict ∧ (∀ i, t.roster.get i = RosterEntry.cleared)
          ∧ t.map = LaneMap.cleared ∧ (inRack s = true → t.guard.state = .clear) ∧ t.tb.role = false
          ∧ (s.station.state = .joined ∨ s.station.state = .leaving →
              ∀ ch, (s.out.get ch).state ∈ [OutState.opening, .opened, .openShort, .paused, .closing] →
                (t.out.get ch).state = .lost ∧ (t.out.get ch).queue = (s.out.get ch).queue)
          ∧ t.framer = s.framer ∧ t.clock = s.clock ∧ t.mem = s.mem)
      ∧ (s.station.state ∈ [StationState.setup, .setupFault, .ready, .parked, .isolated, .blocked] →
          exec (.takePresenceWord p) s = .next { s with trunk := heard }))
    ∧ (∀ st, s.trunk.sending = some ⟨.presence p, none, st⟩ →
        exec (.takePresenceWord p) s = .next { s with
          trunk := { s.trunk with sending := none, gapStart := s.clock.ticks }
          progress := { s.progress with
            ownWordRounds := (s.framer.round :: s.progress.ownWordRounds).take 3 } })

/-- A JOIN makes its sender's entry JOINING with its eligible flag and rank; a sender that was PRESENT has departed first
and its slots are free (R49). A LEAVE makes its sender's entry ABSENT and frees its slots (R50, R78). Each is noticed by the
guard (R154). One with this station's ID that is not its own frees those slots and leaves the own Roster entry as it is: the
model's reading (log 17). The own JOIN at read-back makes a JOINING station JOINED with its own entry PRESENT and its
failure counts 0 (R58). The own LEAVE at read-back makes the own entry ABSENT and frees the own slots; it ends LEAVING at
once on an unframed trunk, and otherwise at the next boundary, or at a loss of framing before it (R64). The end is that of
the outcome: PARKED with the withdrawal of the leave kind, LISTENING with that of the rejoin kind and a listen begun (R41,
R64, R70), a HELD inbound channel being treated as resumed (R129). At the boundary and at the loss the closings that fall
due are taken first (R64 leaves the order open: log 11), the guard judges its interval before the end of LEAVING (log 11),
and the ticks up to the boundary or the timeout pass first (log 2); the switch stays until CUT_OUT (log 12). That slots are
freed after a resync failure too is the model's choice (log 72), and so is that a JOIN or LEAVE taken in an empty-trunk
attempt is entered (log 88). -/
def Obligations.JoinAndLeaveMoveTheRoster : Prop :=
  let namesake (s t : State) : Prop :=
    t.roster = s.roster ∧ (∀ l, ¬(∃ x, (slotEntry s.map l).holding = some x ∧ x.holder = stationId s) →
        slotEntry t.map l = slotEntry s.map l)
      ∧ t.station = s.station ∧ t.out = s.out ∧ t.trig = s.trig ∧ t.tb = s.tb ∧ t.framer = s.framer ∧ t.clock = s.clock
      ∧ t.mem = s.mem ∧ (gathers s = false → t.guard = s.guard)
  (∀ (j : Join) (s : State), s.powered = true → settled s = true →
    (isOwn (.join j) s = false → j.station ≠ stationId s →
      (takesTables s = true →
        ∃ t, exec (.takeJoin j) s = .next t
          ∧ t.roster.get j.station = { s.roster.get j.station with
              state := .joining, eligible := j.eligible, rank := j.rank, miss := 0
              joinedRound := some s.framer.round }
          ∧ (∀ i, i ≠ j.station → t.roster.get i = s.roster.get i)
          ∧ ((s.roster.get j.station).state = .present → heldCount t.map.entries j.station = 0)
          ∧ ((s.roster.get j.station).state ≠ .present → t.map = s.map ∧ t.inb = s.inb)
          ∧ t.station = s.station ∧ t.out = s.out ∧ t.framer = s.framer ∧ t.clock = s.clock ∧ t.mem = s.mem
          ∧ (gathers s = true → t.guard = { s.guard with
              reports := { s.guard.reports with joinOrLeave := true } }))
      ∧ (takesTables s = false → ∃ t, exec (.takeJoin j) s = .next t ∧ t.roster = s.roster ∧ t.map = s.map
          ∧ t.station = s.station ∧ t.mem = s.mem))
    ∧ (∀ e st, s.trunk.sending = some ⟨.join j, e, st⟩ → j.station = stationId s → s.station.state = .joining →
        ∃ t, exec (.takeJoin j) s = .next t ∧ t.station.state = .joined ∧ t.station.learnFails = 0
          ∧ t.station.joinFails = 0 ∧ t.station.viewOmissions = 0
          ∧ (t.roster.get (stationId s)).state = .present
          ∧ (t.roster.get (stationId s)).joinedRound = some s.framer.round
          ∧ (t.roster.get (stationId s)).eligible = eligible s ∧ (t.roster.get (stationId s)).rank = ownRank s
          ∧ t.guard.reports.blanked = true ∧ t.trunk.sending = none ∧ t.framer = s.framer ∧ t.clock = s.clock
          ∧ t.mem = s.mem)
    ∧ (isOwn (.join j) s = false → j.station = stationId s →
        let frees : Prop := takesTables s = true ∧ (s.roster.get (stationId s)).state = .present
        ∃ t, exec (.takeJoin j) s = .next t ∧ namesake s t
          ∧ (gathers s = true → t.guard = { s.guard with
              reports := { s.guard.reports with joinOrLeave := true } })
          ∧ (frees → heldCount t.map.entries (stationId s) = 0)
          ∧ (¬frees → t.map = s.map ∧ t.inb = s.inb)))
  ∧ (∀ (l : Leave) (s : State), s.powered = true → settled s = true →
    (isOwn (.leave l) s = false → l.station ≠ stationId s →
      (takesTables s = true →
        ∃ t, exec (.takeLeave l) s = .next t ∧ (t.roster.get l.station).state = .absent
          ∧ (t.roster.get l.station).miss = (if (s.roster.get l.station).state = .absent then
              (s.roster.get l.station).miss else 0)
          ∧ (∀ i, i ≠ l.station → t.roster.get i = s.roster.get i)
          ∧ heldCount t.map.entries l.station = 0
          ∧ (heldCount s.map.entries l.station = 0 → t.map = s.map)
          ∧ (heldCount s.map.entries l.station ≠ 0 → t.map.epoch = (s.map.epoch + 1) % 65536)
          ∧ t.station = s.station ∧ t.out = s.out ∧ t.framer = s.framer ∧ t.clock = s.clock ∧ t.mem = s.mem
          ∧ (gathers s = true → t.guard = { s.guard with
              leaveDue := true
              reports := { s.guard.reports with joinOrLeave := true, leaveTaken := true } }))
      ∧ (takesTables s = false → ∃ t, exec (.takeLeave l) s = .next t ∧ t.roster = s.roster ∧ t.map = s.map
          ∧ t.station = s.station ∧ t.mem = s.mem))
    ∧ (∀ e st, s.trunk.sending = some ⟨.leave l, e, st⟩ → l.station = stationId s → s.station.state = .leaving →
        ∃ t, exec (.takeLeave l) s = .next t ∧ (t.roster.get (stationId s)).state = .absent
          ∧ heldCount t.map.entries (stationId s) = 0
          ∧ (s.framer.framed = true → t.station.state = .leaving ∧ t.progress.ownLeaveTaken = true)
          ∧ (s.framer.framed = false → leavingEnded s t)
          ∧ t.trunk.sending = none ∧ t.framer = s.framer ∧ t.clock = s.clock ∧ t.mem = s.mem)
    ∧ (isOwn (.leave l) s = false → l.station = stationId s →
        ∃ t, exec (.takeLeave l) s = .next t ∧ namesake s t
          ∧ (gathers s = true → t.guard = { s.guard with
              leaveDue := true
              reports := { s.guard.reports with joinOrLeave := true, leaveTaken := true } })
          ∧ (takesTables s = true → heldCount t.map.entries (stationId s) = 0)
          ∧ (takesTables s = false ∨ heldCount s.map.entries (stationId s) = 0 → t.map = s.map ∧ t.inb = s.inb)))
  ∧ (∀ s : State, s.powered = true → settled s = true → s.station.state = .leaving → s.progress.ownLeaveTaken = true →
      (s.framer.framed = true → s.framer.opening = .begun → (guardBoundary s).guard.state ≠ .isolated →
        ∃ t, exec .roundBoundary s = .next t ∧ leavingEnded s t
          ∧ t.clock = (waitRack (s.framer.start + s.framer.period) s).clock ∧ t.trunk.switch = s.trunk.switch
          ∧ t.trunk.sending = s.trunk.sending)
      ∧ (expects s = true →
        ∃ t, exec .markTimeout s = .next t ∧ leavingEnded s t ∧ t.framer.framed = false
          ∧ t.trunk.switch = s.trunk.switch))

/-! ### CLAIM and RELEASE -/

/-- A CLAIM of another station (R75). It changes nothing where the taker takes no CLAIM (R74), where the claimant's entry is
ABSENT, or where another station holds its stream. Otherwise it is judged slot by slot in its order, each grant counting for
those after it: a slot that is not free is TAKEN, and a free one is granted while the station holds fewer than 16 slots and
the stream fewer than 8, so that the free slots beyond that room meet a CAP. The epoch rises by one if any was granted, and
is their epoch at grant (R72, R73), and a WAITING channel of a stream that so gains its holder is RECEIVING from it (R120).
That it is applied after a resync failure too is the model's choice (log 72), and so is that one taken in an empty-trunk
attempt is (log 88). -/
def Obligations.ClaimIsJudged : Prop :=
  ∀ (c : Claim) (s : State), s.powered = true → settled s = true → isOwn (.claim c) s = false →
    packetInRange (.claim c) = true →
    let heard := { s.trunk with
      gapStart := s.clock.ticks, pace := { s.trunk.pace with heard := true }, repeaterOff := false }
    let conflict : Prop := ∃ l x, (slotEntry s.map l).holding = some x ∧ x.stream = c.stream ∧ x.holder ≠ c.station
    let absent : Prop := (s.roster.get c.station).state = .absent
    let free := c.slots.filter fun l => (slotEntry s.map l).holding = none
    let room := min (16 - heldCount s.map.entries c.station) (8 - streamCount s.map.entries c.stream)
    let granted := free.take room
    (takesTables s = false ∨ absent ∨ conflict → exec (.takeClaim c) s = .next { s with trunk := heard })
    ∧ (∀ l, c.slots = [l] → 16 ≤ heldCount s.map.entries c.station ∨ 8 ≤ streamCount s.map.entries c.stream →
        exec (.takeClaim c) s = .next { s with trunk := heard })
    ∧ (takesTables s = true → ¬absent → ¬conflict →
        ∃ t, exec (.takeClaim c) s = .next t
          ∧ (∀ l ∈ granted, slotEntry t.map l = {
              holding := some { holder := c.station, stream := c.stream }
              grantEpoch := some ((s.map.epoch + 1) % 65536) })
          ∧ (∀ l, l ∉ granted → slotEntry t.map l = slotEntry s.map l)
          ∧ (granted ≠ [] → t.map.epoch = (s.map.epoch + 1) % 65536)
          ∧ (granted = [] → t.map = s.map ∧ t.inb = s.inb)
          ∧ (granted ≠ [] → inRack s = true → streamCount s.map.entries c.stream = 0 →
              ∀ ch, (s.inb.get ch).defn.stream = c.stream → (s.inb.get ch).state = .waiting →
                (t.inb.get ch).state = .receiving ∧ (t.inb.get ch).holder = some c.station)
          ∧ (∀ ch, (s.inb.get ch).defn.stream ≠ c.stream → t.inb.get ch = s.inb.get ch)
          ∧ t.roster = s.roster ∧ t.out = s.out ∧ t.guard = s.guard ∧ t.trig = s.trig ∧ t.station = s.station
          ∧ t.tb = s.tb ∧ t.framer = s.framer ∧ t.clock = s.clock ∧ t.mem = s.mem)

/-- The own CLAIM at read-back hands its outcome to its channel (R76, R101): the counts of granted, TAKEN and CAP slots, or
NOT-MEMBER. An OPENING channel binds the granted slots in the CLAIM's order. With other CLAIMs pending it waits; with none
the attempt is complete: with as many slots as wanted it is OPEN; below four attempts it chooses the next at once (not in
LEAVING, R111, nor with a close pending, log 22); after the fourth it is OPEN-SHORT, or FAILED with its queue flushed if it
has no slot. Under a pause cause OPEN and OPEN-SHORT are PAUSED (R107). A CLOSING channel releases what was granted (R101). A
stream conflict makes an OPENING one CONFLICT with its queue flushed (R102). Each end raises CHANNEL (R115). At the joined
report a LOST channel re-claims with a fresh budget and its queue kept, one that was closing is CLOSED, and a CLOSED one with
auto-open is opened (R113). That the own CLAIM is applied after a resync failure too is the model's choice (log 72). -/
def Obligations.OwnClaimBindsItsSlots : Prop :=
  (∀ (c : Claim) (ch : Channel) (st : Nat) (s : State), s.powered = true → settled s = true →
    s.trunk.sending = some ⟨.claim c, some (.claim ch c), st⟩ → takesTables s = true →
    packetInRange (.claim c) = true →
    let o := s.out.get ch
    let conflict : Prop := ∃ l x, (slotEntry s.map l).holding = some x ∧ x.stream = c.stream ∧ x.holder ≠ c.station
    let member : Prop := (s.roster.get c.station).state ≠ .absent
    let free := c.slots.filter fun l => (slotEntry s.map l).holding = none
    let room := min (16 - heldCount s.map.entries c.station) (8 - streamCount s.map.entries c.stream)
    let granted := if (s.roster.get c.station).state = .absent then [] else free.take room
    let bound := o.slots ++ granted
    let rest := o.claims.erase c.slots
    c.slots ∈ o.claims →
    (¬member ∨ ¬conflict →
      ∃ t, exec (.takeClaim c) s = .next t
        ∧ (t.out.get ch).lastOutcome = some (if (s.roster.get c.station).state = .absent then .notMember
            else .counts granted.length (c.slots.length - free.length) (free.length - granted.length))
        ∧ (∀ l ∈ granted, (slotEntry t.map l).holding = some { holder := c.station, stream := c.stream })
        ∧ (∀ l, l ∉ granted → slotEntry t.map l = slotEntry s.map l)
        ∧ (∀ k, k ≠ ch → t.out.get k = s.out.get k)
        ∧ t.trunk.sending = none ∧ t.mem = s.mem ∧ t.clock = s.clock
        ∧ (o.state = .opening → (t.out.get ch).slots = bound)
        ∧ (o.state = .opening → rest ≠ [] → (t.out.get ch).state = .opening ∧ (t.out.get ch).claims = rest
            ∧ (t.out.get ch).queue = o.queue ∧ t.trunk.queue = s.trunk.queue.erase (.claim ch c))
        ∧ (o.state = .opening → rest = [] → o.emptyAttempt = false →
            (o.defn.wanted ≤ bound.length →
              (t.out.get ch).state = (if pauseCause s then .paused else .opened) ∧ (t.out.get ch).claims = []
              ∧ (t.out.get ch).queue = o.queue ∧ t.trunk.queue = s.trunk.queue.erase (.claim ch c)
              ∧ t.flags &&& flagBit .channel = flagBit .channel)
            ∧ (bound.length < o.defn.wanted → o.attempts < 4 →
              (t.out.get ch).state = .opening ∧ (t.out.get ch).queue = o.queue
              ∧ (s.station.state = .leaving ∨ o.closePending = true →
                  (t.out.get ch).attempts = o.attempts ∧ (t.out.get ch).claims = [])
              ∧ (s.station.state ≠ .leaving → o.closePending = false →
                  (t.out.get ch).attempts = o.attempts + 1
                  ∧ (t.out.get ch).emptyAttempt = decide ((t.out.get ch).claims = [])
                  ∧ (t.out.get ch).claims.flatten.length ≤ o.defn.wanted - bound.length
                  ∧ (∀ g ∈ (t.out.get ch).claims, (∀ l ∈ g, (slotEntry t.map l).holding = none)
                      ∧ .claim ch { station := stationId s, stream := o.defn.stream, slots := g }
                          ∈ t.trunk.queue ++ t.trunk.waiting)))
            ∧ (bound.length < o.defn.wanted → 4 ≤ o.attempts → bound ≠ [] →
              (t.out.get ch).state = (if pauseCause s then .paused else .openShort) ∧ (t.out.get ch).claims = []
              ∧ (t.out.get ch).queue = o.queue ∧ t.flags &&& flagBit .channel = flagBit .channel)
            ∧ (bound.length < o.defn.wanted → 4 ≤ o.attempts → bound = [] →
              (t.out.get ch).state = .failed ∧ (t.out.get ch).queue = [] ∧ (t.out.get ch).claims = []
              ∧ (t.out.get ch).discarded = min 281474976710655 (o.discarded + o.queue.length)
              ∧ (t.out.get ch).firstPending = false ∧ (t.out.get ch).timeStep = false ∧ (t.out.get ch).dropped = false
              ∧ t.flags &&& flagBit .channel = flagBit .channel))
        ∧ (o.state = .closing → granted ≠ [] → (t.out.get ch).state = .closing ∧ (t.out.get ch).slots = bound
            ∧ (t.out.get ch).releasesOut = o.releasesOut + 1
            ∧ .release (some ch) { station := stationId s, stream := o.defn.stream, slots := granted }
                ∈ t.trunk.queue ++ t.trunk.waiting))
    ∧ (member → conflict → o.state = .opening → o.claims = [c.slots] →
      ∃ t, exec (.takeClaim c) s = .next t ∧ (t.out.get ch).state = .conflict ∧ (t.out.get ch).queue = []
        ∧ (t.out.get ch).discarded = min 281474976710655 (o.discarded + o.queue.length)
        ∧ (t.out.get ch).lastOutcome = some .streamConflict ∧ (∀ k, k ≠ ch → t.out.get k = s.out.get k)
        ∧ t.map = s.map ∧ t.trunk.sending = none
        ∧ t.flags &&& flagBit .channel = flagBit .channel ∧ t.mem = s.mem ∧ t.clock = s.clock))
  ∧ (∀ (j : Join) (s : State), s.powered = true → settled s = true →
      ∀ e st, s.trunk.sending = some ⟨.join j, e, st⟩ → j.station = stationId s → s.station.state = .joining →
      ∃ t, exec (.takeJoin j) s = .next t ∧ t.station.state = .joined
        ∧ (∀ ch, let o := s.out.get ch
            let flushed := min 281474976710655 (o.discarded + o.queue.length)
            let claiming : Prop := (t.out.get ch).state = .opening ∧ (t.out.get ch).attempts = 1
              ∧ (t.out.get ch).firstPending = true ∧ (t.out.get ch).defn = o.defn
              ∧ (t.out.get ch).emptyAttempt = decide ((t.out.get ch).claims = [])
              ∧ (∀ g ∈ (t.out.get ch).claims, (∀ l ∈ g, (slotEntry t.map l).holding = none)
                  ∧ .claim ch { station := stationId s, stream := o.defn.stream, slots := g }
                      ∈ t.trunk.queue ++ t.trunk.waiting)
            (o.state = .lost → o.closingTo ≠ some .closed → claiming
              ∧ (t.out.get ch).queue = o.queue ∧ (t.out.get ch).nextTag = o.nextTag ∧ (t.out.get ch).drain = o.drain
              ∧ (t.out.get ch).timeStep = o.timeStep ∧ (t.out.get ch).dropped = o.dropped
              ∧ (t.out.get ch).accepted = o.accepted ∧ (t.out.get ch).sent = o.sent)
            ∧ (o.state = .lost → o.closingTo = some .closed →
                (t.out.get ch).state = .closed ∧ (t.out.get ch).queue = [] ∧ (t.out.get ch).discarded = flushed)
            ∧ (o.state = .closed → o.defn.autoOpen = true → claiming ∧ (t.out.get ch).queue = []
                ∧ (t.out.get ch).nextTag = 0 ∧ (t.out.get ch).accepted = 0)
            ∧ (o.state = .closed → o.defn.autoOpen = false → t.out.get ch = o)
            ∧ (o.state ∈ [OutState.failed, .conflict, .closing, .opening] → t.out.get ch = o)))

/-- A RELEASE frees exactly the listed slots that its sender holds for its stream, and raises the epoch by one if it freed
any (R77, R73); outside LEARNING, JOINING, JOINED and LEAVING one of another station changes nothing (R74). A channel that
was RECEIVING a stream which so loses its last slot is WAITING, a HELD one stays HELD without a stream holder, each with an
ENDED record of no words if the end was not seen before: of the last holder, else of the stream holder (R120, R135); of one
that knows neither, the record's holder is free (log 25). The own RELEASE at read-back takes its slots off the channel's
list; a CLOSING channel with nothing left to release becomes CLOSED, or LOST with its queue kept, and any other channel
stays in its state (R110). That RELEASEs are applied after a resync failure too is the model's choice (log 72), and so is
that those taken in an empty-trunk attempt are (log 88). -/
def Obligations.ReleaseFreesItsSlots : Prop :=
  ∀ (r : Release) (s : State), s.powered = true → settled s = true →
    let heard := { s.trunk with
      gapStart := s.clock.ticks, pace := { s.trunk.pace with heard := true }, repeaterOff := false }
    let freed (l : Slot) : Prop :=
      l ∈ r.slots ∧ (slotEntry s.map l).holding = some { holder := r.station, stream := r.stream }
    let effect (t : State) : Prop :=
      (∀ l, freed l → slotEntry t.map l = SlotEntry.free)
        ∧ (∀ l, ¬freed l → slotEntry t.map l = slotEntry s.map l)
        ∧ ((∃ l, freed l) → t.map.epoch = (s.map.epoch + 1) % 65536)
        ∧ ((∀ l, ¬freed l) → t.map = s.map ∧ t.inb = s.inb)
        ∧ t.roster = s.roster ∧ t.tb = s.tb ∧ t.framer = s.framer ∧ t.clock = s.clock ∧ t.mem = s.mem
        ∧ t.station = s.station
    (takesTables s = false → isOwn (.release r) s = false → packetInRange (.release r) = true →
      exec (.takeRelease r) s = .next { s with trunk := heard })
    ∧ (takesTables s = true → isOwn (.release r) s = false → packetInRange (.release r) = true →
      ∃ t, exec (.takeRelease r) s = .next t ∧ effect t ∧ t.out = s.out ∧ t.trunk.queue = s.trunk.queue
        ∧ (∀ ch, (s.inb.get ch).defn.stream ≠ r.stream → t.inb.get ch = s.inb.get ch)
        ∧ (inRack s = true → (∃ l, freed l) → streamCount t.map.entries r.stream = 0 →
            ∀ ch, let c := s.inb.get ch
              c.defn.stream = r.stream → c.state = .receiving ∨ c.state = .held →
              (t.inb.get ch).state = (if c.state = .held then .held else .waiting) ∧ (t.inb.get ch).holder = none
              ∧ (delivers s = true → c.endSeen = false → c.log.length < 16 →
                  ∃ d, (t.inb.get ch).log = c.log ++ [d] ∧ d.flags.ended = true ∧ d.count = 0
                    ∧ d.offset = none ∧ d.time = s.clock.rack ∧ d.tag = c.lastTag.getD 0
                    ∧ (∀ h, c.lastHolder = some h → d.holder = h)
                    ∧ (∀ h, c.lastHolder = none → c.holder = some h → d.holder = h)
                    ∧ t.flags &&& flagBit .channel = flagBit .channel ∧ (t.inb.get ch).endSeen = true)
              ∧ (delivers s = false ∨ c.endSeen = true → (t.inb.get ch).log = c.log)))
    ∧ (∀ ch st, takesTables s = true → s.trunk.sending = some ⟨.release r, some (.release (some ch) r), st⟩ →
        let o := s.out.get ch
        o.state = .closing → o.claims = [] → o.releasesOut = 1 → o.closingTo = some .closed →
        (∀ l ∈ o.slots, l ∈ r.slots) →
        ∃ t, exec (.takeRelease r) s = .next t ∧ effect t ∧ (t.out.get ch).state = .closed
          ∧ (t.out.get ch).slots = [] ∧ (t.out.get ch).closingTo = none ∧ (t.out.get ch).drain = false
          ∧ (∀ k, k ≠ ch → t.out.get k = s.out.get k)
          ∧ t.trunk.queue = s.trunk.queue.erase (.release (some ch) r) ∧ t.trunk.sending = none
          ∧ t.flags &&& flagBit .channel = flagBit .channel)
    ∧ (∀ ch st, takesTables s = true → s.trunk.sending = some ⟨.release r, some (.release (some ch) r), st⟩ →
        let o := s.out.get ch
        let left := o.slots.filter fun l => !r.slots.contains l
        let goes : Prop := o.state = .closing ∧ left = [] ∧ o.claims = [] ∧ o.releasesOut ≤ 1
        ∃ t, exec (.takeRelease r) s = .next t ∧ effect t ∧ (∀ k, k ≠ ch → t.out.get k = s.out.get k)
          ∧ (¬goes → t.out.get ch = { o with slots := left, releasesOut := o.releasesOut - 1 })
          ∧ (goes → o.closingTo = some .lost → (t.out.get ch).state = .lost ∧ (t.out.get ch).queue = o.queue
              ∧ (t.out.get ch).slots = [] ∧ (t.out.get ch).drain = o.drain
              ∧ t.flags &&& flagBit .channel = flagBit .channel))

/-! ### Samples and triggers -/

/-- A SAMPLE in the slot its holder holds for its stream, taken JOINED or LEAVING, is stored by a RING channel of its
stream whose window is IDLE: word i at ring offset (c + i) mod S from the committed position c, every other byte of Sample
Memory as it was, the position moved on, and a delivery record with the packet's tag, time, count and offset added where
the log has room (R121 to R123, R130, R132). A SAMPLE that failed its CRC-16 alone is kept with INVALID, or skipped under
SKIP-INVALID, which commits and records nothing (R4, R124). -/
def Obligations.SampleIsStoredInItsRing : Prop :=
  ∀ (p : Sample) (ch : Channel) (s : State), s.powered = true → settled s = true → s.framer.framed = true →
    delivers s = true →
    (slotEntry s.map ⟨p.lane, phaseOf s.framer.round⟩).holding = some { holder := p.holder, stream := p.stream } →
    packetInRange (.sample p) = true →
    let c := s.inb.get ch
    let size := c.defn.pages * 256
    let cell (i : Nat) := c.defn.base.val * 256 + (c.committed + i) % size
    let k := p.words.length
    c.defn.stream = p.stream → (∀ o, o ≠ ch → (s.inb.get o).defn.stream ≠ p.stream) → c.defn.mode = .ring →
    0 < c.defn.pages → c.defn.base.val + c.defn.pages ≤ 64 → c.window.state = .idle →
    c.state = .waiting ∨ c.state = .receiving →
    let written (t : State) : Prop :=
      (∀ i (h : i < k), readWord t.mem (cell i) = p.words[i])
        ∧ (∀ a, (∀ i, i < k → a < 4 * cell i ∨ 4 * cell i + 4 ≤ a) → readByte t.mem a = readByte s.mem a)
        ∧ (t.inb.get ch).state = .receiving ∧ (∀ o, o ≠ ch → t.inb.get o = s.inb.get o)
        ∧ (c.state = .waiting → (t.inb.get ch).holder = some p.holder
            ∧ t.flags &&& flagBit .channel = flagBit .channel)
        ∧ t.map = s.map ∧ t.out = s.out ∧ t.roster = s.roster ∧ t.framer = s.framer ∧ t.clock = s.clock
        ∧ t.tb = s.tb ∧ t.station = s.station ∧ t.trig = s.trig
    let stored (invalid : Bool) (t : State) : Prop :=
      written t ∧ (t.inb.get ch).committed = (c.committed + k) % size ∧ (t.inb.get ch).extent = 0
        ∧ (t.inb.get ch).counters.packets = min 4294967295 (c.counters.packets + 1)
        ∧ (t.inb.get ch).counters.words = min 4294967295 (c.counters.words + k)
        ∧ (16 ≤ c.log.length → (t.inb.get ch).log = c.log ∧ (t.inb.get ch).pendingFlags.recordsLost = true
            ∧ (t.inb.get ch).expectedTag = c.expectedTag)
        ∧ (c.log.length < 16 → ∃ d, (t.inb.get ch).log = c.log ++ [d] ∧ d.tag = p.tag ∧ d.time = p.time
            ∧ d.count = k ∧ d.offset = some c.committed ∧ d.holder = p.holder ∧ d.flags.invalid = invalid
            ∧ d.flags.last = p.flags.last ∧ d.flags.freeTime = p.flags.freeTime
            ∧ d.flags.dropped = p.flags.dropped ∧ d.flags.timeStep = (p.flags.timeStep || c.timeStep)
            ∧ d.flags.newHolder = (c.lastHolder.isSome && !p.flags.first && c.lastHolder != some p.holder)
            ∧ d.flags.gap = ((c.lastHolder == some p.holder && !p.flags.first && c.expectedTag != some p.tag)
                || c.pendingFlags.gap)
            ∧ (t.inb.get ch).expectedTag = some ((p.tag + 1) % 4096) ∧ (t.inb.get ch).lastHolder = some p.holder)
    (∃ t, exec (.takeSample p) s = .next t ∧ stored false t ∧ t.guard = s.guard)
    ∧ (∀ heard, classify heard = .failedSample p →
        ∃ t, exec (.failedPacketReceived heard) s = .next t
          ∧ (gathers s = true → t.guard.reports.counts.line = min 255 (s.guard.reports.counts.line + 1))
          ∧ (c.defn.policy = .keep → stored true t)
          ∧ (c.defn.policy = .skip → written t ∧ (t.inb.get ch).committed = c.committed
              ∧ (t.inb.get ch).extent = k ∧ (t.inb.get ch).log = c.log
              ∧ (t.inb.get ch).pendingFlags.invalidSkipped = true))

/-- What else becomes of a SAMPLE of another station (R81, R85, R121, R122, R125). A PAIR channel stores it in the
lower-numbered half that is neither latest nor held, which becomes latest; where one is held and the other latest, it
supersedes the packet in the latest. A failed one under SKIP-INVALID is written into a half only if one is free, which loses
its descriptor and does not become latest, and adds no record (R125). A HELD channel counts the packet and stores nothing.
In JOINING it only shows WAITING channels their holder. A stray stores nothing: the first of a round is counted, the second
is a cause of a resync, a further one and a failed one do nothing (R85). The count is R86's: the third of a JOINED station
REJOINs, and that a count which stands at 3 from JOINING does so too is the model's choice (log 78). On an unframed trunk,
or outside the rack, a SAMPLE is ignored. -/
def Obligations.SamplesActByChannelAndStation : Prop :=
  ∀ (p : Sample) (ch : Channel) (s : State), s.powered = true → settled s = true →
    isOwn (.sample p) s = false → packetInRange (.sample p) = true →
    let c := s.inb.get ch
    let heard := { s.trunk with
      gapStart := s.clock.ticks, pace := { s.trunk.pace with heard := true }, repeaterOff := false }
    let holding := (slotEntry s.map ⟨p.lane, phaseOf s.framer.round⟩).holding
    let matching : Prop := holding = some { holder := p.holder, stream := p.stream }
    let count := if s.map.boundariesSince < 12 then min 3 (s.map.consecutive + 1) else 1
    let base (h : Fin 2) := c.defn.base.val * 256 + 16 * h.val
    let free (h : Fin 2) : Prop :=
      c.latest ≠ some h ∧ c.hold ≠ some h ∧ (h = 1 → c.latest = some 0 ∨ c.hold = some 0)
    let written (h : Fin 2) (t : State) : Prop :=
      (∀ i (b : i < p.words.length), readWord t.mem (base h + i) = p.words[i])
        ∧ (∀ a, a < 4 * base h ∨ 4 * (base h + p.words.length) ≤ a → readByte t.mem a = readByte s.mem a)
    let stored (h : Fin 2) (invalid superseded : Bool) (t : State) : Prop :=
      (t.inb.get ch).latest = some h ∧ (t.inb.get ch).hold = c.hold
        ∧ (t.inb.get ch).descs.get h = some {
            tag := p.tag, time := p.time, count := p.words.length, holder := p.holder }
        ∧ (∀ k, k ≠ h → (t.inb.get ch).descs.get k = c.descs.get k)
        ∧ written h t
        ∧ (t.inb.get ch).counters.superseded = (if superseded then min 4294967295 (c.counters.superseded + 1)
            else c.counters.superseded)
        ∧ (∃ d, (t.inb.get ch).log = c.log ++ [d] ∧ d.offset = some (16 * h.val) ∧ d.tag = p.tag
            ∧ d.flags.superseded = superseded ∧ d.flags.invalid = invalid)
    (s.framer.framed = false ∨ inRack s = false → exec (.takeSample p) s = .next { s with trunk := heard })
    ∧ (s.framer.framed = true → inRack s = true → ¬matching →
        (∃ t, exec (.takeSample p) s = .next t ∧ t.mem = s.mem ∧ t.inb = s.inb
          ∧ (s.tb.role = false → s.map.resync = .none →
              (s.map.stray = 0 → t.map = { s.map with stray := 1 } ∧ t.station = s.station)
              ∧ (s.map.stray = 1 → s.map.failed = false →
                t.map.stray = 2 ∧ t.map.consecutive = count ∧ t.flags &&& flagBit .map = flagBit .map
                ∧ (s.station.state ≠ .joined ∨ count ≠ 3 →
                    t.map.resync = .gathering ∧ t.map.gatherMarks = 0 ∧ t.station = s.station)
                ∧ (s.station.state = .joined → count = 3 → t.map.resync = .none ∧ t.station.state = .leaving
                    ∧ t.station.leaveOutcome = some .listening ∧ leavePacketsQueued s t))
              ∧ (s.map.stray = 2 → t.map = s.map ∧ t.station = s.station))
          ∧ (s.tb.role = true ∨ s.map.resync ≠ .none → t.map = s.map ∧ t.station = s.station))
        ∧ (∀ heard, classify heard = .failedSample p → ∃ t, exec (.failedPacketReceived heard) s = .next t
          ∧ t.mem = s.mem ∧ t.inb = s.inb ∧ t.map = s.map ∧ t.station = s.station))
    ∧ (s.framer.framed = true → s.station.state = .joining → matching →
        ∃ t, exec (.takeSample p) s = .next t ∧ t.mem = s.mem ∧ t.map = s.map
          ∧ (t.inb.get ch = if c.defn.stream = p.stream ∧ c.state = .waiting then
              { c with state := .receiving, holder := some p.holder } else c))
    ∧ (s.framer.framed = true → delivers s = true → matching → c.defn.stream = p.stream →
        (∀ o, o ≠ ch → (s.inb.get o).defn.stream ≠ p.stream) →
        (c.state = .held → exec (.takeSample p) s = .next { s with
          trunk := heard
          inb := s.inb.set ch { c with
            heldDrop := min 65535 (c.heldDrop + 1)
            counters := { c.counters with heldDropped := min 4294967295 (c.counters.heldDropped + 1) } } })
        ∧ (c.state = .closed → exec (.takeSample p) s = .next { s with trunk := heard })
        ∧ (c.state = .receiving → c.window.state = .done → exec (.takeSample p) s = .next { s with
            trunk := heard
            inb := s.inb.set ch { c with
              counters := { c.counters with withheld := min 4294967295 (c.counters.withheld + 1) } } })
        ∧ (c.state = .receiving → c.defn.mode = .pair → c.window.state = .idle → c.log.length < 16 →
            (∀ h, free h → (∃ t, exec (.takeSample p) s = .next t ∧ stored h false false t))
            ∧ (∀ h k, h ≠ k → c.latest = some h → c.hold = some k →
                ∃ t, exec (.takeSample p) s = .next t ∧ stored h false true t)
            ∧ (∀ heard, classify heard = .failedSample p →
                (c.defn.policy = .keep →
                  (∀ h, free h → ∃ t, exec (.failedPacketReceived heard) s = .next t ∧ stored h true false t)
                  ∧ (∀ h k, h ≠ k → c.latest = some h → c.hold = some k →
                      ∃ t, exec (.failedPacketReceived heard) s = .next t ∧ stored h true true t))
                ∧ (c.defn.policy = .skip → ∃ t, exec (.failedPacketReceived heard) s = .next t
                    ∧ (t.inb.get ch).latest = c.latest ∧ (t.inb.get ch).hold = c.hold
                    ∧ (t.inb.get ch).log = c.log ∧ (t.inb.get ch).window = c.window
                    ∧ (t.inb.get ch).pendingFlags = { c.pendingFlags with invalidSkipped := true }
                    ∧ (t.inb.get ch).counters.invalidSkipped = min 4294967295 (c.counters.invalidSkipped + 1)
                    ∧ (∀ h, free h → written h t ∧ (t.inb.get ch).descs = c.descs.set h none)
                    ∧ ((∀ h, ¬free h) → t.mem = s.mem ∧ (t.inb.get ch).descs = c.descs)))))

/-- A window that is ARMED or CAPTURING decides of each packet a RING channel takes, by the packet's first-word time (R148):
from its AT-TIME stop on it withholds and is DONE, before its AT-TIME start it withholds and keeps its state, and otherwise
the packet is stored and the window is CAPTURING. A stored packet's words are counted as captured, and with stop TRIGGER and a
trigger taken as words since it; a COUNT or TRIGGER stop whose count is reached makes the window DONE, the packet being stored
whole (R149, R150). The next record added carries the TRIGGER that waits to be attached; with a full log it waits on (R150). A
failed packet that is skipped moves no window, and one that is withheld is counted withheld and not written (R148); that one
withheld under SKIP-INVALID moves no window either is the model's choice (logs 26, 62). -/
def Obligations.WindowsDecideWhatIsStored : Prop :=
  ∀ (p : Sample) (ch : Channel) (s : State), s.powered = true → settled s = true → s.framer.framed = true →
    delivers s = true → isOwn (.sample p) s = false → packetInRange (.sample p) = true →
    (slotEntry s.map ⟨p.lane, phaseOf s.framer.round⟩).holding = some { holder := p.holder, stream := p.stream } →
    let c := s.inb.get ch
    let w := c.window
    let k := p.words.length
    let size := c.defn.pages * 256
    let cell (i : Nat) := c.defn.base.val * 256 + (c.committed + i) % size
    let heard := { s.trunk with
      gapStart := s.clock.ticks, pace := { s.trunk.pace with heard := true }, repeaterOff := false }
    let withheld := { c.counters with withheld := min 4294967295 (c.counters.withheld + 1) }
    let stopped : Prop := ∃ t, w.stop = some (.atTime t) ∧ t ≤ p.time
    let early : Prop := ∃ t, w.start = some (.atTime t) ∧ p.time < t
    let captured := min 4294967295 (w.captured + k)
    let counts : Prop := w.taken ≠ none ∧ ∃ n, w.stop = some (.trigger n)
    let ends : Prop := (∃ n, w.stop = some (.count n) ∧ n ≤ captured)
      ∨ (w.taken ≠ none ∧ ∃ n, w.stop = some (.trigger n) ∧ n ≤ min 4294967295 (w.sinceTrigger + k))
    c.defn.stream = p.stream → (∀ o, o ≠ ch → (s.inb.get o).defn.stream ≠ p.stream) → c.defn.mode = .ring →
    0 < c.defn.pages → c.defn.base.val + c.defn.pages ≤ 64 → c.state = .receiving →
    w.state = .armed ∨ w.state = .capturing →
    (stopped → exec (.takeSample p) s = .next { s with
        trunk := heard
        inb := s.inb.set ch { c with window := { w with state := .done }, counters := withheld } })
    ∧ (¬stopped → early → exec (.takeSample p) s = .next { s with
        trunk := heard
        inb := s.inb.set ch { c with counters := withheld } })
    ∧ (¬stopped → ¬early →
        ∃ t, exec (.takeSample p) s = .next t
          ∧ (t.inb.get ch).window.captured = captured
          ∧ (counts → (t.inb.get ch).window.sinceTrigger = min 4294967295 (w.sinceTrigger + k))
          ∧ (¬counts → (t.inb.get ch).window.sinceTrigger = w.sinceTrigger)
          ∧ (ends → (t.inb.get ch).window.state = .done) ∧ (¬ends → (t.inb.get ch).window.state = .capturing)
          ∧ (t.inb.get ch).window.start = w.start ∧ (t.inb.get ch).window.stop = w.stop
          ∧ (t.inb.get ch).window.taken = w.taken
          ∧ (c.log.length < 16 → (t.inb.get ch).window.attach = false
              ∧ ∃ d, (t.inb.get ch).log = c.log ++ [d] ∧ d.flags.trigger = w.attach ∧ d.count = k)
          ∧ (16 ≤ c.log.length → (t.inb.get ch).window.attach = w.attach ∧ (t.inb.get ch).log = c.log)
          ∧ (t.inb.get ch).committed = (c.committed + k) % size
          ∧ (∀ i (h : i < k), readWord t.mem (cell i) = p.words[i])
          ∧ (∀ a, (∀ i, i < k → a < 4 * cell i ∨ 4 * cell i + 4 ≤ a) → readByte t.mem a = readByte s.mem a)
          ∧ (∀ o, o ≠ ch → t.inb.get o = s.inb.get o))
    ∧ (∀ heard, classify heard = .failedSample p → c.defn.policy = .skip →
        ∃ t, exec (.failedPacketReceived heard) s = .next t ∧ (t.inb.get ch).window = w
          ∧ (t.inb.get ch).log = c.log ∧ (t.inb.get ch).committed = c.committed
          ∧ (stopped ∨ early → t.mem = s.mem ∧ (t.inb.get ch).counters = withheld)
          ∧ (¬stopped → ¬early →
              (t.inb.get ch).counters.invalidSkipped = min 4294967295 (c.counters.invalidSkipped + 1)))

/-- A TRIGGER of another station, taken in JOINING, JOINED or LEAVING, whose sequence is not the last of its sender: the
sequence is kept, and every window takes it that is ARMED or CAPTURING with stop TRIGGER, holds no trigger, belongs to a
WAITING or RECEIVING channel and accepts it, as a trigger of trunk origin (R144, R147). A repeat, one with this station's
ID, and one taken outside the rack change no window. The own TRIGGER at read-back empties the slot (R142). -/
def Obligations.TriggerIsTaken : Prop :=
  ∀ (k : Trigger) (s : State), s.powered = true → settled s = true →
    let heard := { s.trunk with
      gapStart := s.clock.ticks, pace := { s.trunk.pace with heard := true }, repeaterOff := false }
    let takes (c : InChannel) : Prop :=
      (c.state = .waiting ∨ c.state = .receiving) ∧ (c.window.state = .armed ∨ c.window.state = .capturing)
        ∧ (∃ n, c.window.stop = some (.trigger n)) ∧ c.window.taken = none
        ∧ (c.defn.acceptance = .any ∨ c.defn.acceptance = .fromStation k.station)
    (isOwn (.trigger k) s = false → packetInRange (.trigger k) = true →
      (inRack s = true → k.station ≠ stationId s → s.trig.lastSeq.get k.station ≠ some k.sequence →
        ∃ t, exec (.takeTrigger k) s = .next t
          ∧ { t with inb := s.inb } = { s with
              trunk := heard
              trig := { s.trig with lastSeq := s.trig.lastSeq.set k.station (some k.sequence) } }
          ∧ (∀ ch, takes (s.inb.get ch) → t.inb.get ch = { s.inb.get ch with
              window := { (s.inb.get ch).window with taken := some k, attach := true, sinceTrigger := 0 } })
          ∧ (∀ ch, ¬takes (s.inb.get ch) → t.inb.get ch = s.inb.get ch))
      ∧ (inRack s = false ∨ k.station = stationId s ∨ s.trig.lastSeq.get k.station = some k.sequence →
          exec (.takeTrigger k) s = .next { s with trunk := heard }))
    ∧ (∀ st, s.trunk.sending = some ⟨.trigger k, none, st⟩ → s.trig.pendingTrigger = some k →
        exec (.takeTrigger k) s = .next { s with
          trunk := { s.trunk with sending := none, gapStart := s.clock.ticks }
          trig := { s.trig with pendingTrigger := none } })

/-- The trigger lines (R138 to R143). With a filter time of 0 the filtered levels follow the lines at once, and a rise of an
unmasked line outside blanking is an edge: its entry in the condition table makes nothing, a local trigger or a rack
trigger. A trigger takes the sequence, the rack time and the condition address, and starts blanking; every window takes it
that is ARMED or CAPTURING with stop TRIGGER, holds no trigger, belongs to a WAITING or RECEIVING channel, and accepts
LOCAL, ANY or FROM this station (R141, R147); a rack trigger fills the empty slot of an INLINE station or is an overrun.
With a filter time above 0 a change waits as a candidate, and takes effect when the time has run; candidates whose times end
together change their levels as one, and rises among them are one edge, at the candidate time of the line that rises (R139,
R141). The model's readings: of two that rise with different times the lowest line's counts (log 44), changes of one tick
come in one row (log 100), and the ticks up to the end of a filter time pass first (log 2). -/
def Obligations.EdgesMakeTriggers : Prop :=
  ∀ s : State, s.powered = true → settled s = true →
    let g := s.trig
    let takes (c : InChannel) : Prop :=
      (c.state = .waiting ∨ c.state = .receiving) ∧ (c.window.state = .armed ∨ c.window.state = .capturing)
        ∧ (∃ n, c.window.stop = some (.trigger n)) ∧ c.window.taken = none
        ∧ (c.defn.acceptance = .localOnly ∨ c.defn.acceptance = .any ∨ c.defn.acceptance = .fromStation (stationId s))
    let outcome (levels : BitVec 4) (rack ticks : Nat) (t : State) : Prop :=
      let rises := levels &&& ~~~g.filtered &&& ~~~g.settings.mask
      let address : Fin 16 := (levels &&& ~~~g.settings.mask).toFin
      let action := g.settings.table.get address
      let quiet : Prop := rises = 0 ∨ ticks < g.blankUntil ∨ action = .nothing
      let made : Trigger := { station := stationId s, sequence := g.nextSeq, time := rack, entry := address }
      t.trig.filtered = levels
      ∧ (quiet → t.trig.lastMade = g.lastMade ∧ t.trig.nextSeq = g.nextSeq ∧ t.trig.blankUntil = g.blankUntil
          ∧ t.trig.pendingTrigger = g.pendingTrigger ∧ t.trig.overruns = g.overruns ∧ t.inb = s.inb
          ∧ t.flags = s.flags)
      ∧ (¬quiet → t.trig.lastMade = some made ∧ t.trig.nextSeq = (g.nextSeq + 1) % 256
          ∧ t.trig.blankUntil = ticks + g.settings.blanking
          ∧ (∀ ch, takes (s.inb.get ch) → t.inb.get ch = { s.inb.get ch with
              window := { (s.inb.get ch).window with taken := some made, attach := true, sinceTrigger := 0 } })
          ∧ (∀ ch, ¬takes (s.inb.get ch) → t.inb.get ch = s.inb.get ch))
      ∧ (¬quiet → action = .localTrigger → t.trig.pendingTrigger = g.pendingTrigger ∧ t.trig.overruns = g.overruns)
      ∧ (¬quiet → action = .rackTrigger →
          (g.pendingTrigger = none → s.trunk.switch = .inline →
            t.trig.pendingTrigger = some made ∧ t.trig.overruns = g.overruns)
          ∧ (g.pendingTrigger ≠ none ∨ s.trunk.switch = .closed →
              t.trig.pendingTrigger = g.pendingTrigger ∧ t.trig.overruns = min 65535 (g.overruns + 1)
              ∧ t.flags &&& flagBit .triggerOverrun = flagBit .triggerOverrun))
    (∀ levels, watchesLines s = true → g.settings.filter = 0 → (∀ i, g.candidates.get i = none) →
      ∃ t, exec (.triggerLineChange levels) s = .next t ∧ outcome levels s.clock.rack s.clock.ticks t
        ∧ t.pins = { s.pins with lines := levels } ∧ (∀ i, t.trig.candidates.get i = none)
        ∧ t.clock = s.clock ∧ t.out = s.out ∧ t.map = s.map ∧ t.mem = s.mem ∧ t.trunk = s.trunk)
    ∧ (∀ levels, watchesLines s = true → 0 < g.settings.filter →
        exec (.triggerLineChange levels) s = .next { s with
          pins := { s.pins with lines := levels }
          trig := { g with candidates := Bank.ofFn fun i =>
            if levels.getLsbD i.val = g.filtered.getLsbD i.val then none
            else match g.candidates.get i with
              | some c => some c
              | none => some { time := s.clock.rack, due := s.clock.ticks + g.settings.filter } } })
    ∧ (∀ levels, watchesLines s = false →
        exec (.triggerLineChange levels) s = .next { s with pins := { s.pins with lines := levels } })
    ∧ (∀ (due time : Nat) (levels : BitVec 4),
        let ends (i : Fin 4) : Prop := ∃ c, g.candidates.get i = some c ∧ c.due = due
        let rises (i : Fin 4) : Prop :=
          levels.getLsbD i.val = true ∧ g.filtered.getLsbD i.val = false ∧ g.settings.mask.getLsbD i.val = false
        (∃ i, ends i) → (∀ i c, g.candidates.get i = some c → due ≤ c.due) →
        (∀ i, (ends i → levels.getLsbD i.val = !g.filtered.getLsbD i.val)
          ∧ (¬ends i → levels.getLsbD i.val = g.filtered.getLsbD i.val)) →
        (∀ i c, rises i → (∀ j, j < i → ¬rises j) → g.candidates.get i = some c → c.time = time) →
        ∃ t, exec .filterTimeExpiry s = .next t
          ∧ outcome levels time (max s.clock.ticks due) t
          ∧ (∀ i, (ends i → t.trig.candidates.get i = none)
              ∧ (¬ends i → t.trig.candidates.get i = g.candidates.get i))
          ∧ t.clock = (waitTicks due s).clock ∧ t.pins = s.pins
          ∧ t.out = s.out ∧ t.map = s.map ∧ t.mem = s.mem ∧ t.trunk = s.trunk)
    ∧ ((∀ i, g.candidates.get i = none) → exec .filterTimeExpiry s = .next s)

/-! ### The frame port -/

/-- A PUSH is taken by a channel that is OPENING, OPEN, OPEN-SHORT, PAUSED or LOST without a drain or a close pending: the
word joins the queue's tail with its push time and lock mark (R96); a queue of 512 entries refuses it under DROP-NEW and
drops its oldest entry under DROP-OLD (R97). Any other PUSH is REFUSED-STATE and changes nothing else. -/
def Obligations.PushIsTakenByState : Prop :=
  ∀ (ch : Channel) (w : Word) (s : State), s.powered = true → s.frame = .idle →
    let c := s.out.get ch
    let e : QueuedWord :=
      { word := w, time := s.clock.rack, lock := if s.tb.lock = .locked then .locked else .unlockedTime }
    let takes : Prop :=
      c.state ∈ [OutState.opening, .opened, .openShort, .paused, .lost] ∧ c.drain = false ∧ c.closePending = false
    let top := 281474976710655
    (takes → c.queue.length < 512 → exec (.push ch w) s = .next { s with
      out := s.out.set ch { c with queue := c.queue ++ [e], accepted := min top (c.accepted + 1) }
      frame := channelResult 1 ch .done .nothing })
    ∧ (takes → 512 ≤ c.queue.length → c.defn.policy = .dropNew → exec (.push ch w) s = .next { s with
      out := s.out.set ch { c with refused := min top (c.refused + 1), dropped := true }
      frame := channelResult 1 ch .full .nothing })
    ∧ (takes → 512 ≤ c.queue.length → c.defn.policy = .dropOld → exec (.push ch w) s = .next { s with
      out := s.out.set ch { c with
        queue := c.queue.drop 1 ++ [e], accepted := min top (c.accepted + 1)
        discarded := min top (c.discarded + 1), dropped := true }
      frame := channelResult 1 ch .done .nothing })
    ∧ (¬takes → exec (.push ch w) s = .next { s with frame := channelResult 1 ch .refusedState .nothing })

/-- OPEN-OUT is taken for a CLOSED or FAILED channel, or a CONFLICT channel with empty lists, while JOINED (R99); that such
a CONFLICT channel takes it also while its RELEASE is outstanding is the model's choice (log 81). It opens the record, and
the first attempt's CLAIMs, for the slots free in the map and not claimed already, join the pending list, the first four in
one CLAIM and up to four more in a second, and are offered (R100), so that each is queued or waits (R15), admitted where
there is room ahead of packets that wait: the model's choice (log 42). It is BUSY where the first CLAIM finds no room, and
REFUSED-STATE in every other case; neither changes anything else. -/
def Obligations.OpenOutStartsAnAttempt : Prop :=
  ∀ (ch : Channel) (s : State), s.powered = true → s.frame = .idle →
    let c := s.out.get ch
    let takes : Prop := s.station.state = .joined ∧ (c.state = .closed ∨ c.state = .failed
      ∨ (c.state = .conflict ∧ c.slots = [] ∧ c.claims = []))
    let opened := { s with out := s.out.set ch (openRecord c) }
    (¬takes → exec (.openOut ch) s = .next { s with frame := channelResult 2 ch .refusedState .nothing })
    ∧ (takes → attemptLists ch s ≠ [] → roomForOrdinary s = false →
        exec (.openOut ch) s = .next { s with frame := channelResult 2 ch .busy .nothing })
    ∧ (takes → attemptLists ch s = [] ∨ roomForOrdinary s = true →
        ∃ t, exec (.openOut ch) s = .next t ∧ t.frame = channelResult 2 ch .started .nothing
          ∧ t.out.get ch = { openRecord c with
              attempts := 1, claims := attemptLists ch opened, emptyAttempt := (attemptLists ch opened).isEmpty }
          ∧ (∀ k, k ≠ ch → t.out.get k = s.out.get k)
          ∧ (attemptLists ch opened = [] → t.trunk = s.trunk)
          ∧ (∀ ls ∈ attemptLists ch opened,
              .claim ch ⟨stationId s, c.defn.stream, ls⟩ ∈ t.trunk.queue ++ t.trunk.waiting)
          ∧ (∀ ls rest, attemptLists ch opened = ls :: rest → roomForOrdinary s = true →
              .claim ch ⟨stationId s, c.defn.stream, ls⟩ ∈ t.trunk.queue)
          ∧ (∀ e ∈ s.trunk.queue ++ s.trunk.waiting, e ∈ t.trunk.queue ++ t.trunk.waiting)
          ∧ (∀ ls, attemptLists ch opened = [ls] → roomForOrdinary s = true →
              t.trunk = { s.trunk with
                queue := insertEntry (.claim ch ⟨stationId s, c.defn.stream, ls⟩) s.trunk.queue })
          ∧ t.map = s.map ∧ t.roster = s.roster ∧ t.inb = s.inb ∧ t.mem = s.mem ∧ t.station = s.station
          ∧ t.clock = s.clock ∧ t.tb = s.tb ∧ t.guard = s.guard ∧ t.flags = s.flags)
    ∧ (∀ ls rest, attemptLists ch opened = ls :: rest → 1 ≤ ls.length ∧ ls.length ≤ 4
        ∧ (rest ≠ [] → ls.length = 4 ∧ ∃ more, rest = [more] ∧ 1 ≤ more.length ∧ more.length ≤ 4))
    ∧ (c.defn.wanted ≤ 8 → (attemptLists ch opened).flatten =
        (allSlots.filter fun l => isFree (slotEntry s.map l) && !(claimedSlots opened).contains l).take
          c.defn.wanted)

/-- CLOSE-NOW and CLOSE-DRAIN by the channel's state (R108). An open channel of a framed trunk waits for the boundary with
its close pending, and so does a FAILED or CONFLICT one with its drain flag set; an OPENING one withdraws its CLAIMs first,
which completes no attempt, the model's choice (log 73); a LOST channel is CLOSED at once with its queue flushed, and a
FAILED one without the drain flag; a CLOSING or CLOSED one refuses, and so does one whose close is pending. On an unframed
trunk the close is carried out at once, with a RELEASE for the slots. A CONFLICT channel with slots or CLAIMs is CLOSING;
that one without slots, whose CLAIM is still on the trunk, is CLOSING and answers STARTED is the model's choice (log 80).
CLOSE-DRAIN sets the drain flag of an open or LOST channel that still holds words, and is otherwise a CLOSE-NOW (R109). -/
def Obligations.ClosingActsByChannelState : Prop :=
  ∀ (ch : Channel) (s : State), s.powered = true → s.frame = .idle →
    let c := s.out.get ch
    let answered (kind : Nat) (code : FrameCode) (u : State) :=
      { u with frame := channelResult kind ch code .nothing }
    let resting : Prop := c.state = .opened ∨ c.state = .openShort ∨ c.state = .paused
    let waits : Prop := resting ∨ (c.drain = true ∧ (c.state = .failed ∨ c.state = .conflict))
    let flushed : OutChannel := { c with
      queue := [], discarded := min 281474976710655 (c.discarded + c.queue.length) }
    let closed : OutChannel := { flushed with
      state := .closed, slots := [], claims := [], attempts := 0, firstPending := false, drain := false
      closePending := false, closingTo := none, timeStep := false, dropped := false, releasesOut := 0
      emptyAttempt := false }
    (∀ kind command, (kind = 3 ∧ command = Instr.closeNow ch)
        ∨ (kind = 4 ∧ command = Instr.closeDrain ch ∧ c.drain = false
            ∧ (resting ∨ c.state = .lost → c.queue = [])) →
      (c.closePending = true ∨ c.state = .closing ∨ c.state = .closed →
        exec command s = .next (answered kind .refusedState s))
      ∧ (c.closePending = false → waits → s.framer.framed = true →
        exec command s = .next (answered kind .started
          { s with out := s.out.set ch { c with closePending := true } }))
      ∧ (c.closePending = false → c.state = .lost ∨ (c.state = .failed ∧ c.drain = false) →
        exec command s = .next (answered kind .done { s with out := s.out.set ch closed }))
      ∧ (c.closePending = false → c.drain = false → c.state = .conflict → c.slots = [] → c.claims = [] →
        exec command s = .next (answered kind .done { s with out := s.out.set ch closed }))
      ∧ (c.closePending = false → c.drain = false → c.state = .conflict → c.slots ≠ [] ∨ c.claims ≠ [] →
        exec command s = .next (answered kind .started { s with
          out := s.out.set ch { c with state := .closing, closingTo := some .closed } }))
      ∧ (c.closePending = false → c.state = .opening → s.framer.framed = true →
        ∃ t, exec command s = .next t ∧ t.frame = channelResult kind ch .started .nothing
          ∧ (t.out.get ch).closePending = true ∧ (t.out.get ch).state = .opening
          ∧ (s.trunk.sending = none → (t.out.get ch).claims = []
              ∧ ∀ e ∈ t.trunk.queue, isClaimOf ch e = false)
          ∧ (t.out.get ch).queue = c.queue ∧ (∀ k, k ≠ ch → t.out.get k = s.out.get k) ∧ t.map = s.map)
      ∧ (c.closePending = false → waits ∨ c.state = .opening → s.framer.framed = false →
          c.claims = [] ∨ s.trunk.sending = none →
        ∃ t, exec command s = .next t ∧ t.frame = channelResult kind ch .started .nothing
          ∧ (t.out.get ch).queue = [] ∧ (t.out.get ch).discarded = flushed.discarded
          ∧ (t.out.get ch).drain = false ∧ (t.out.get ch).closePending = false
          ∧ (c.slots = [] → c.releasesOut = 0 → (t.out.get ch).state = .closed)
          ∧ (c.slots ≠ [] → (t.out.get ch).state = .closing ∧ (t.out.get ch).closingTo = some .closed
              ∧ (t.out.get ch).slots = c.slots
              ∧ .release (some ch) { station := stationId s, stream := c.defn.stream, slots := c.slots }
                  ∈ t.trunk.queue ++ t.trunk.waiting)
          ∧ (∀ k, k ≠ ch → t.out.get k = s.out.get k) ∧ t.map = s.map ∧ t.clock = s.clock ∧ t.mem = s.mem))
    ∧ (c.drain = false → c.closePending = false → resting ∨ c.state = .lost → c.queue ≠ [] →
        exec (.closeDrain ch) s = .next (answered 4 .started
          { s with out := s.out.set ch { c with drain := true } }))
    ∧ (c.drain = true → exec (.closeDrain ch) s = .next (answered 4 .refusedState s))

/-- OPEN-IN is taken for a CLOSED channel outside SETUP and SETUP-FAULT: its running record, log and window begin anew, and
it is RECEIVING from the holder the map of a station in the rack gives its stream, or WAITING (R119). CLOSE-IN is taken for
any other channel: CLOSED, its pending flags, note, reader hold, held drop count and window cleared, its log and counters
kept; that it keeps its stream holder is the model's choice (log 25), and so is that it keeps the expected tag, the last
holder, the last record tag and the end seen (log 82). HOLD-IN makes a WAITING or RECEIVING channel HELD with a held drop
count of 0 (R128). RESUME-IN takes a HELD channel to RECEIVING, or to WAITING where no holder is known; where packets were
dropped HELD-DROPPED and GAP join the pending flags (R129). Each is REFUSED-STATE in the other states. Sample Memory stays
as it is (R116). -/
def Obligations.InboundChannelsOpenCloseAndHold : Prop :=
  (∀ (ch : Channel) (s : State), s.powered = true → s.frame = .idle →
      let c := s.inb.get ch
      let answered (kind : Nat) (code : FrameCode) (u : State) :=
        { u with frame := channelResult kind ch code .nothing }
      let opens : Prop := c.state = .closed ∧ s.station.state ≠ .setup ∧ s.station.state ≠ .setupFault
      (opens → ∀ h, inRack s = true → streamHolder s.map.entries c.defn.stream = some h →
        exec (.openIn ch) s = .next (answered 5 .done { s with inb := s.inb.set ch { InChannel.initial with
          defn := c.defn, state := .receiving, holder := some h } }))
      ∧ (opens → inRack s = false ∨ streamHolder s.map.entries c.defn.stream = none →
        exec (.openIn ch) s = .next (answered 5 .done { s with inb := s.inb.set ch { InChannel.initial with
          defn := c.defn, state := .waiting } }))
      ∧ (¬opens → exec (.openIn ch) s = .next (answered 5 .refusedState s))
      ∧ (c.state ≠ .closed → exec (.closeIn ch) s = .next (answered 6 .done { s with inb := s.inb.set ch { c with
          state := .closed, pendingFlags := PendingFlags.empty, timeStep := false, hold := none, heldDrop := 0
          window := Window.initial } }))
      ∧ (c.state = .closed → exec (.closeIn ch) s = .next (answered 6 .refusedState s)))
  ∧ (∀ (ch : Channel) (s : State), s.powered = true → s.frame = .idle →
      let c := s.inb.get ch
      let answered (kind : Nat) (code : FrameCode) (u : State) :=
        { u with frame := channelResult kind ch code .nothing }
      let flags := if c.heldDrop = 0 then c.pendingFlags
        else { c.pendingFlags with heldDropped := true, gap := true }
      (c.state = .waiting ∨ c.state = .receiving →
        exec (.holdIn ch) s = .next (answered 7 .done
          { s with inb := s.inb.set ch { c with state := .held, heldDrop := 0 } }))
      ∧ (c.state = .closed ∨ c.state = .held → exec (.holdIn ch) s = .next (answered 7 .refusedState s))
      ∧ (c.state = .held → ∀ h, inRack s = true → streamHolder s.map.entries c.defn.stream = some h →
        exec (.resumeIn ch) s = .next (answered 8 .done { s with inb := s.inb.set ch { c with
          state := .receiving, holder := some h, heldDrop := 0, pendingFlags := flags } }))
      ∧ (c.state = .held → inRack s = false ∨ streamHolder s.map.entries c.defn.stream = none →
        exec (.resumeIn ch) s = .next (answered 8 .done { s with inb := s.inb.set ch { c with
          state := .waiting, holder := none, heldDrop := 0, pendingFlags := flags } }))
      ∧ (c.state ≠ .held → exec (.resumeIn ch) s = .next (answered 8 .refusedState s)))

/-- ARM-IN gives an IDLE or DONE window of a channel that is not CLOSED its start and stop and makes it ARMED with nothing
counted; it is REFUSED-STATE for a CLOSED channel and for a window that is ARMED or CAPTURING, and then REFUSED-RANGE for a
count of 0 or above 16,777,215 or a stop time not later than the start time. DISARM-IN gives the window its initial values
(R146). -/
def Obligations.WindowsAreArmedAndDisarmed : Prop :=
  ∀ (ch : Channel) (start : WindowStart) (stop : WindowStop) (s : State), s.powered = true → s.frame = .idle →
    let c := s.inb.get ch
    let answered (kind : Nat) (code : FrameCode) (u : State) :=
      { u with frame := channelResult kind ch code .nothing }
    let busy : Prop := c.state = .closed ∨ c.window.state = .armed ∨ c.window.state = .capturing
    let beyond : Prop := (∃ n, (stop = .count n ∨ stop = .trigger n) ∧ (n = 0 ∨ 16777215 < n))
      ∨ (∃ a b, start = .atTime a ∧ stop = .atTime b ∧ b ≤ a)
    (busy → exec (.armIn ch start stop) s = .next (answered 9 .refusedState s))
    ∧ (¬busy → beyond → exec (.armIn ch start stop) s = .next (answered 9 .refusedRange s))
    ∧ (¬busy → ¬beyond → exec (.armIn ch start stop) s = .next (answered 9 .done { s with
        inb := s.inb.set ch { c with window := {
          state := .armed, start := some start, stop := some stop, taken := none, attach := false, captured := 0
          sinceTrigger := 0 } } }))
    ∧ (c.state = .closed → exec (.disarmIn ch) s = .next (answered 10 .refusedState s))
    ∧ (c.state ≠ .closed → exec (.disarmIn ch) s = .next (answered 10 .done { s with
        inb := s.inb.set ch { c with window := {
          state := .idle, start := none, stop := none, taken := none, attach := false, captured := 0
          sinceTrigger := 0 } } }))

/-- READ-DELIVERY removes the oldest record and returns it, EMPTY where there is none (R133). READ-MEMORY returns the words
in address order and changes nothing, REFUSED-RANGE beyond page 63 or for a count of 0 or above 256 (R116). READ-CHANNEL
returns the definition and the running record as they stand, with the queue's depth and its head's push time (R115), or the
log's count, its oldest tag and the window (R136, R174). READ-DELIVERY and READ-CHANNEL are REFUSED-STATE in SETUP and
SETUP-FAULT. TAKE-PAIR is REFUSED-STATE for a channel that is CLOSED or in RING mode, BUSY while the reader hold is set, EMPTY
while no half is latest, and otherwise holds the latest half and answers with it and its descriptor (R126). -/
def Obligations.FrameReadsReturnWhatStands : Prop :=
  ∀ s : State, s.powered = true → s.frame = .idle →
    let loaded : Prop := s.station.state ≠ .setup ∧ s.station.state ≠ .setupFault
    (∀ ch, (loaded → ∀ d rest, (s.inb.get ch).log = d :: rest → exec (.readDelivery ch) s = .next { s with
        inb := s.inb.set ch { s.inb.get ch with log := rest }
        frame := channelResult 11 ch .done (.delivery d) })
      ∧ (loaded → (s.inb.get ch).log = [] → exec (.readDelivery ch) s = .next { s with
          frame := channelResult 11 ch .empty .nothing })
      ∧ (¬loaded → exec (.readDelivery ch) s = .next { s with
          frame := channelResult 11 ch .refusedState .nothing }))
    ∧ (∀ (page offset : Byte) (count : BitVec 16),
        let inside : Prop := page.toNat < 64 ∧ 1 ≤ count.toNat ∧ count.toNat ≤ 256
          ∧ page.toNat * 256 + offset.toNat + count.toNat ≤ 16384
        (inside → ∃ ws, exec (.readMemory page offset count) s = .next { s with
              frame := .answered ⟨12, page, offset, .done, .words ws⟩ }
            ∧ ws.length = count.toNat
            ∧ ∀ i (h : i < ws.length), ws[i] = readWord s.mem (page.toNat * 256 + offset.toNat + i))
        ∧ (¬inside → exec (.readMemory page offset count) s = .next { s with
            frame := .answered ⟨12, page, offset, .refusedRange, .nothing⟩ }))
    ∧ (∀ ch, (loaded → exec (.readChannel .outbound ch) s = .next { s with
            frame := channelResult 15 ch .done (.outbound {
                defn := (s.out.get ch).defn, run := (s.out.get ch).toOutRun
                depth := (s.out.get ch).queue.length, headTime := (s.out.get ch).queue.head?.map (·.time) }) })
        ∧ (loaded → exec (.readChannel .inbound ch) s = .next { s with
            frame := channelResult 15 ch .done (.inbound {
                defn := (s.inb.get ch).defn, run := (s.inb.get ch).toInRun
                logCount := (s.inb.get ch).log.length, oldestTag := (s.inb.get ch).log.head?.map (·.tag)
                window := (s.inb.get ch).window }) })
        ∧ (¬loaded → ∀ d, exec (.readChannel d ch) s = .next { s with
            frame := channelResult 15 ch .refusedState .nothing }))
    ∧ (∀ ch,
        let c := s.inb.get ch
        let answered (code : FrameCode) (payload : FramePayload) (u : State) :=
          { u with frame := channelResult 13 ch code payload }
        (c.state = .closed ∨ c.defn.mode = .ring →
          exec (.takePair ch) s = .next (answered .refusedState .nothing s))
        ∧ (c.state ≠ .closed → c.defn.mode = .pair → c.hold ≠ none →
          exec (.takePair ch) s = .next (answered .busy .nothing s))
        ∧ (c.state ≠ .closed → c.defn.mode = .pair → c.hold = none → c.latest = none →
          exec (.takePair ch) s = .next (answered .empty .nothing s))
        ∧ (c.state ≠ .closed → c.defn.mode = .pair → c.hold = none → ∀ h d, c.latest = some h →
          c.descs.get h = some d →
          exec (.takePair ch) s = .next (answered .done (.half h d)
            { s with inb := s.inb.set ch { c with hold := some h } })))

/-- RETURN-PAIR is refused with REFUSED-STATE when the channel is CLOSED, in RING mode or without a reader hold; otherwise
it clears the reader hold alone. CLOSE-IN clears it too, as OPEN-IN does with the latest half and both descriptors;
HOLD-IN, RESUME-IN and every withdrawal keep it, and no word of the area changes (R127). -/
def Obligations.ReturnPairReleasesTheHalf : Prop :=
  ∀ (ch : Channel) (s : State), s.powered = true → s.frame = .idle →
    let c := s.inb.get ch
    (c.state = .closed ∨ c.defn.mode = .ring ∨ c.hold = none →
      exec (.returnPair ch) s = .next { s with frame := channelResult 14 ch .refusedState .nothing })
    ∧ (c.state ≠ .closed → c.defn.mode = .pair → c.hold ≠ none →
      exec (.returnPair ch) s = .next { s with
        inb := s.inb.set ch { c with hold := none }, frame := channelResult 14 ch .done .nothing })
    ∧ (c.state ≠ .closed → ∀ t, exec (.closeIn ch) s = .next t → (t.inb.get ch).hold = none ∧ t.mem = s.mem)
    ∧ (c.state = .closed → s.station.state ≠ .setup → s.station.state ≠ .setupFault →
      ∀ t, exec (.openIn ch) s = .next t → (t.inb.get ch).hold = none ∧ (t.inb.get ch).latest = none
        ∧ (∀ h, (t.inb.get ch).descs.get h = none) ∧ t.mem = s.mem)
    ∧ (∀ t, exec (.holdIn ch) s = .next t ∨ exec (.resumeIn ch) s = .next t →
      (t.inb.get ch).hold = c.hold ∧ t.mem = s.mem)
    ∧ (∀ k, ((withdraw k s).inb.get ch).hold = c.hold ∧ (withdraw k s).mem = s.mem)

/-! ### Ports, reads and commands of the service port -/

/-- Both ports take one request at a time (R169, R183). A request that fails decoding is answered REFUSED-RANGE and acts on
nothing (R170, R183); that the service port answers it so in SETUP as well, where R183 refuses every other request, is the
model's choice (log 29), and so is kind or channel 0 in the answer to a frame that lacks the byte (log 94). A port that
holds an answer takes no request at all; the collection of the frame's result, and the end of a service answer, make their
port IDLE again. -/
def Obligations.PortsTakeOneRequestAtATime : Prop :=
  (∀ s : State, s.powered = true →
    (s.frame = .idle → ∀ frame, decodeFrameRequest frame = none →
      exec (.unknownFrameRequest frame) s = .next { s with frame := .answered {
        kind := byteAt frame 0, channel := byteAt frame 1, offset := 0, code := .refusedRange
        payload := .nothing } })
    ∧ (∀ r, s.frame = .answered r → exec .resultCollected s = .next { s with frame := .idle })
    ∧ (s.service = .idle → ∀ frame, decodeServiceRequest frame = none →
      exec (.unknownServiceRequest frame) s = .next { s with service := .answered {
        kind := byteAt frame 0, code := .refusedRange, payload := .nothing } })
    ∧ (∀ a, s.service = .answered a → exec .serviceAnswerSent s = .next { s with service := .idle }))
  ∧ (∀ (c : Instr) (s : State), s.frame ≠ .idle → rowKind c = .framePort → c ≠ .resultCollected →
      exec c s = .next s)
  ∧ (∀ (c : Instr) (s : State), s.service ≠ .idle → rowKind c = .servicePort → c ≠ .serviceAnswerSent →
      exec c s = .next s)

/-- The reads of the service port. READ-SUMMARY returns the eight flags and clears them, in every station state (R187). A
LIVE read returns its record and changes nothing; an index out of range is REFUSED-RANGE, and in SETUP any class but the
setup record is REFUSED-STATE (R183, R184). The records are those of Table 10-2: the station record, a Roster or slot entry,
the map, timebase, guard and trigger records, a channel as READ-CHANNEL returns it, a window with its acceptance, the setup
record. SNAPSHOT waits for the boundary of a framed trunk, is taken at once on an unframed one, and is BUSY while one waits
(R185); a SNAPSHOT read returns the copy, or EMPTY without one, and REFUSED-RANGE for a class the snapshot does not keep
(R186). The model's choices: a listen that ran out and awaits its cut-in reads as running (log 21), what the unsent count
and the page counter show outside a tenure (log 55), expected MARK as the expectation of a TAKEOVER or HANDOFF alone, at the
time it set (log 77), and REFUSED-RANGE before EMPTY (log 75). -/
def Obligations.ServiceReadsReturnRecords : Prop :=
  ∀ s : State, s.powered = true → s.service = .idle →
    (exec .readSummary s = .next { s with flags := 0, service := serviceResult 3 .done (.summary s.flags) })
    ∧ (∀ cls index, s.station.state ≠ .setup ∨ cls = .setup → indexInRange cls index = true →
        exec (.serviceReadLive cls index) s = .next { s with
          service := serviceResult 1 .done (.live (liveRecord cls index s)) })
    ∧ (∀ cls index, s.station.state ≠ .setup ∨ cls = .setup → indexInRange cls index = false →
        exec (.serviceReadLive cls index) s = .next { s with service := serviceResult 1 .refusedRange .nothing }
        ∧ exec (.serviceReadSnapshot cls index) s = .next { s with
            service := serviceResult 1 .refusedRange .nothing })
    ∧ (∀ cls index, s.station.state = .setup → cls ≠ .setup →
        exec (.serviceReadLive cls index) s = .next { s with service := serviceResult 1 .refusedState .nothing }
        ∧ exec (.serviceReadSnapshot cls index) s = .next { s with
            service := serviceResult 1 .refusedState .nothing })
    ∧ (∀ cls index, s.station.state ≠ .setup → indexInRange cls index = true → snapshotKeeps cls = true →
        (s.snapshots.copy = none → exec (.serviceReadSnapshot cls index) s = .next { s with
          service := serviceResult 1 .empty .nothing })
        ∧ (∀ x, s.snapshots.copy = some x → ∃ r, copiedRecord cls index x = some r
            ∧ exec (.serviceReadSnapshot cls index) s = .next { s with
                service := serviceResult 1 .done (.copied x.round x.time x.framed r) }))
    ∧ (∀ cls index, s.station.state ≠ .setup ∨ cls = .setup → snapshotKeeps cls = false →
        exec (.serviceReadSnapshot cls index) s = .next { s with
          service := serviceResult 1 .refusedRange .nothing })
    ∧ (s.station.state = .setup → exec .snapshot s = .next { s with
        service := serviceResult 2 .refusedState .nothing })
    ∧ (s.station.state ≠ .setup →
        (s.snapshots.pending = true → exec .snapshot s = .next { s with
          service := serviceResult 2 .busy .nothing })
        ∧ (s.snapshots.pending = false → s.framer.framed = true → exec .snapshot s = .next { s with
            snapshots := { s.snapshots with pending := true }, service := serviceResult 2 .started .nothing })
        ∧ (s.snapshots.pending = false → s.framer.framed = false → exec .snapshot s = .next { s with
            snapshots := { pending := false, copy := some {
              round := s.framer.round, time := s.clock.rack, framed := false, roster := s.roster
              slots := s.map.entries, map := mapRecord s, timebase := timebaseRecord s, guard := s.guard } }
            service := serviceResult 2 .done .nothing }))
    ∧ (∀ index : Byte,
        let out (ch : Channel) : Record := .outbound {
          defn := (s.out.get ch).defn, run := (s.out.get ch).toOutRun
          depth := (s.out.get ch).queue.length, headTime := (s.out.get ch).queue.head?.map (·.time) }
        let inb (ch : Channel) : Record := .inbound {
          defn := (s.inb.get ch).defn, run := (s.inb.get ch).toInRun
          logCount := (s.inb.get ch).log.length, oldestTag := (s.inb.get ch).log.head?.map (·.tag)
          window := (s.inb.get ch).window }
        liveRecord .station index s = .station s.station ∧ liveRecord .guard index s = .guard s.guard
        ∧ liveRecord .setup index s = .setup s.setup
        ∧ (∀ i : StationId, index.toNat = i.val → liveRecord .roster index s = .roster (s.roster.get i)
            ∧ ∀ x, copiedRecord .roster index x = some (.roster (x.roster.get i)))
        ∧ (∀ l : Slot, index.toNat = l.lane.val * 4 + l.phase.val →
            liveRecord .slot index s = .slot (slotEntry s.map l)
            ∧ ∀ x, copiedRecord .slot index x = some (.slot (x.slots.get (slotIndex l))))
        ∧ (∀ ch : Channel, index.toNat = ch.val → liveRecord .outbound index s = out ch
            ∧ liveRecord .inbound index s = inb ch
            ∧ liveRecord .window index s = .window (s.inb.get ch).window (s.inb.get ch).defn.acceptance)
        ∧ (∀ x, copiedRecord .map index x = some (.map x.map) ∧ copiedRecord .timebase index x = some (.timebase x.timebase)
            ∧ copiedRecord .guard index x = some (.guard x.guard))
        ∧ liveRecord .map index s = .map {
            epoch := s.map.epoch, ownHeld := heldCount s.map.entries (stationId s)
            free := (s.map.entries.list.filter fun e => e.holding = none).length
            resync := s.map.resync, gathered := s.map.gathered, gatherMarks := s.map.gatherMarks
            consecutive := s.map.consecutive, boundariesSince := s.map.boundariesSince
            outstanding := s.map.outstanding, lastTest := s.map.lastTest, stray := s.map.stray
            mismatch := s.map.mismatch, foundOwn := s.map.foundOwn }
        ∧ liveRecord .timebase index s = .timebase {
            lock := s.tb.lock, rack := s.clock.rack, hold := s.clock.holdUntil - s.clock.ticks, period := s.tb.period
            framed := s.framer.framed, round := s.framer.round, role := s.tb.role, designated := s.tb.designated
            designatedRank := s.tb.designatedRank, lastMark := s.tb.lastMark, missed := s.tb.missed
            expected := s.tb.expected, unsent := s.tb.unsent, pageCounter := s.tb.pageCounter.val
            election := match s.tb.election with
              | .idle => .idle
              | .backoff _ => .backoff
              | .takeoverQueued => .takeoverQueued
            listen := match s.tb.listen with
              | .idle => .idle
              | .cutIn _ => .cutIn
              | _ => .running
            quality := s.tb.lastQuality }
        ∧ liveRecord .trigger index s = .trigger {
            settings := s.trig.settings, filtered := s.trig.filtered, blanking := s.trig.blankUntil - s.clock.ticks
            nextSeq := s.trig.nextSeq, pendingTrigger := s.trig.pendingTrigger, overruns := s.trig.overruns
            lastMade := s.trig.lastMade, lastSeq := s.trig.lastSeq })

/-- REJOIN, LEAVE and CLEAR ISOLATION by the station state (R189). One that is taken answers DONE and has made its change of
station state with the withdrawal that goes with it (R70), and raises STATE. The withdrawal is stated block by block:
Roster, map, inbound channels, pending TRIGGER, guard, backoff, and the outbound channels by its kind (Table 3-2; logs 23,
39, 50, 60, 93), a HELD inbound channel being treated as resumed (R129, R137). A REJOIN from LISTENING, LEARNING, PARKED or
BLOCKED sets both failure counts to 0, one from JOINING keeps them (R69); a LEAVE from LISTENING or LEARNING is no
withdrawal (R70); that a REJOIN in LISTENING, which leaves the station state as it was, raises it as well is the model's
reading (log 18). One that is not taken answers REFUSED-STATE and changes nothing. From JOINED the station is LEAVING, with
its LEAVE queued, and a source's HANDOFF (R39, R63). CLEAR ISOLATION releases the guard's latch: CLEAR, its counts, blanking
and trouble 0, the trip record and the last judgement kept, GUARD raised (R166). -/
def Obligations.ServiceCommandsActByStationState : Prop :=
  ∀ s : State, s.powered = true → s.service = .idle →
    let st := s.station.state
    let refused (c : Instr) (kind : Nat) : Prop :=
      exec c s = .next { s with service := serviceResult kind .refusedState .nothing }
    let done (c : Instr) (kind : Nat) (next : StationState) (outcome : Option LeaveOutcome)
        (effect : State → Prop) : Prop :=
      ∃ t, exec c s = .next t ∧ t.service = serviceResult kind .done .nothing ∧ t.station.state = next
        ∧ t.station.leaveOutcome = outcome ∧ t.station.blockReason = none
        ∧ t.flags &&& flagBit .state = flagBit .state ∧ t.clock = s.clock ∧ t.framer = s.framer ∧ t.mem = s.mem
        ∧ t.snapshots = s.snapshots ∧ t.trunk.switch = s.trunk.switch
        ∧ (next ≠ .leaving → (∀ i, t.roster.get i = RosterEntry.cleared) ∧ t.map = LaneMap.cleared)
        ∧ effect t
    let counts (t : State) : Nat × Nat := (t.station.learnFails, t.station.joinFails)
    (st ∈ [StationState.setup, .setupFault, .ready, .leaving, .isolated] → refused .rejoin 4)
    ∧ (st ∈ [StationState.listening, .learning, .parked, .blocked] →
        done .rejoin 4 .listening none fun t => withdrawn .rejoin s t ∧ counts t = (0, 0))
    ∧ (st = .joining → done .rejoin 4 .listening none fun t => withdrawn .rejoin s t ∧ counts t = counts s)
    ∧ (st = .joined → done .rejoin 4 .leaving (some .listening) fun t => leavePacketsQueued s t)
    ∧ (st ∈ [StationState.setup, .setupFault, .ready, .leaving, .parked, .blocked, .isolated] → refused .leave 5)
    ∧ (st = .listening ∨ st = .learning → done .leave 5 .parked none fun t =>
        t.guard = s.guard ∧ t.trig.pendingTrigger = s.trig.pendingTrigger ∧ counts t = counts s
          ∧ (settled s = true → t.out = s.out))
    ∧ (st = .joining → done .leave 5 .parked none fun t => withdrawn .leave s t ∧ counts t = counts s)
    ∧ (st = .joined → done .leave 5 .leaving (some .parked) fun t => leavePacketsQueued s t)
    ∧ (st ≠ .isolated → refused .clearIsolation 6)
    ∧ (st = .isolated → done .clearIsolation 6 .listening none fun t =>
        withdrawn .rejoin s t ∧ t.flags &&& flagBit .guard = flagBit .guard)

/-! ### What every step keeps, and the formats -/

/-- Every step leaves a station with supply settled: the role is held only under the conditions of R27, an election runs
exactly while its conditions hold (R34), and a channel is not OPEN or OPEN-SHORT under a pause cause nor PAUSED without one
(R107). -/
def Obligations.EveryStepStaysSettled : Prop :=
  ∀ s t : State, (s.powered = true → settled s = true) → step s = .next t → t.powered = true → settled t = true

/-- Every step keeps the station, its switch, its transmitter and its guard consistent (R1, 8.1, R155, R164): it sends only
while INLINE, JOINED and LEAVING stations are INLINE, the guard is ISOLATED exactly in the station state ISOLATED and CLEAR
outside the rack, an interval runs only while INLINE, in the rack or in ISOLATED up to the cut-out, and the load runs only in
SETUP (R179). -/
def Obligations.EveryStepKeepsTheRackConsistent : Prop :=
  ∀ s t : State, rackConsistent s = true → step s = .next t → rackConsistent t = true

/-- Every step keeps the law of the Lane Map that no stream number is held by two different stations (R72). -/
def Obligations.EveryStepKeepsStreamsUndivided : Prop :=
  ∀ s t : State, streamsUndivided s = true → step s = .next t → streamsUndivided t = true

/-- Every step keeps the bounds of the queues and logs: at most 8 entries in the control queue, six of them ordinary and
one of each reserved kind (R14), only ordinary packets waiting for admission (R15), at most 512 entries in each outbound queue
(R94), at most 16 in each delivery log (R132); and Sample Memory in its canonical form, which is the model's own choice
(log 27). -/
def Obligations.EveryStepKeepsQueuesBounded : Prop :=
  ∀ s t : State, queuesSound s = true → step s = .next t → queuesSound t = true

/-- Every step accounts for each outbound channel's words: as long as no counter has reached its top, the words accepted
are the words sent, the words discarded and the words that wait (R98). -/
def Obligations.EveryStepAccountsForWords : Prop :=
  ∀ s t : State, outboundWordsBalance s = true → step s = .next t → outboundWordsBalance t = true

/-- Every step keeps the counts of the guard record in the ranges of Table 8-1, leaves both ports between requests (R169,
R183; log 31), and leaves a snapshot pending only while the trunk is FRAMED (R185). -/
def Obligations.EveryStepKeepsTheRecordsInRange : Prop :=
  (∀ s t : State, guardInRange s = true → step s = .next t → guardInRange t = true)
    ∧ (∀ s t : State, portsRest s = true → step s = .next t → portsRest t = true)
    ∧ (∀ s t : State, snapshotAwaitsBoundary s = true → step s = .next t → snapshotAwaitsBoundary t = true)

/-- Every packet whose fields are in range passes the receiver's check as the bytes it is sent as, with every field as it
was (R4, R190, Table 11-2). -/
def Obligations.PacketsReadBackAsSent : Prop :=
  ∀ p : Packet, packetInRange p = true → classify (packetBytes p) = .passed p
end

