-- ==== Sys2Proof/Laws/State.lean ====
section
/-! SUPPORT. The updates of State: what each writes, and field by field what it leaves unchanged. -/
namespace Sys2Proof.Machine

/-! ### What the updates of one field write -/

@[simp] theorem raise_flags (f : Flag) (s : State) : (raise f s).flags = s.flags ||| flagBit f := rfl

@[simp] theorem raiseIf_flags (c : Bool) (f : Flag) (s : State) :
    (raiseIf c f s).flags = if c then s.flags ||| flagBit f else s.flags := by cases c <;> rfl

@[simp] theorem elapse_clock (n : Nat) (s : State) : (elapse n s).clock = advanceClock n s.clock := rfl

@[simp] theorem waitTicks_clock (t : Nat) (s : State) :
    (waitTicks t s).clock = advanceClock (t - s.clock.ticks) s.clock := rfl

@[simp] theorem waitRack_clock (t : Nat) (s : State) :
    (waitRack t s).clock = advanceClock (ticksToRack t s) s.clock := rfl

@[simp] theorem advanceClock_ticks (n : Nat) (c : Clock) : (advanceClock n c).ticks = c.ticks + n := rfl

@[simp] theorem advanceClock_holdUntil (n : Nat) (c : Clock) : (advanceClock n c).holdUntil = c.holdUntil := rfl

@[simp] theorem startPacket_trunk (p : Packet) (e : Option QueueEntry) (s : State) :
    (startPacket p e s).trunk =
      { s.trunk with sending := some { packet := p, entry := e, startedAt := s.clock.ticks } } := rfl

@[simp] theorem endSending_trunk (s : State) :
    (endSending s).trunk = { s.trunk with sending := none, gapStart := s.clock.ticks } := rfl

@[simp] theorem packetEnded_trunk (whole : Bool) (s : State) :
    (packetEnded whole s).trunk = { s.trunk with
      gapStart := s.clock.ticks, repeaterOff := false
      pace := { s.trunk.pace with heard := s.trunk.pace.heard || whole } } := rfl

@[simp] theorem enqueue_trunk (e : QueueEntry) (s : State) :
    (enqueue e s).trunk = { s.trunk with queue := insertEntry e s.trunk.queue } := rfl

@[simp] theorem declarePosition_framer (p : Position) (s : State) :
    (declarePosition p s).framer = { s.framer with position := p } := rfl

@[simp] theorem declarePosition_clock (p : Position) (s : State) :
    (declarePosition p s).clock = (waitRack (s.framer.start + positionOffset p) s).clock := rfl

@[simp] theorem takeSnapshot_snapshots (s : State) :
    (takeSnapshot s).snapshots = { pending := false, copy := some (snapshotOf s) } := rfl

/-! ### What the named updates leave unchanged -/

@[simp] theorem raise_frame (f : Flag) (s : State) :
    (raise f s).powered = s.powered ∧ (raise f s).pins = s.pins ∧ (raise f s).clock = s.clock ∧
    (raise f s).trunk = s.trunk ∧ (raise f s).framer = s.framer ∧ (raise f s).tb = s.tb ∧
    (raise f s).station = s.station ∧ (raise f s).progress = s.progress ∧ (raise f s).roster = s.roster ∧
    (raise f s).rollCall = s.rollCall ∧ (raise f s).map = s.map ∧ (raise f s).out = s.out ∧
    (raise f s).inb = s.inb ∧ (raise f s).mem = s.mem ∧ (raise f s).trig = s.trig ∧
    (raise f s).guard = s.guard ∧ (raise f s).frame = s.frame ∧ (raise f s).service = s.service ∧
    (raise f s).setup = s.setup ∧ (raise f s).settings = s.settings ∧ (raise f s).snapshots = s.snapshots ∧
    (raise f s).pending = s.pending ∧
    (raise f s).freeDraws = s.freeDraws := by
  unfold raise; (try dsimp only); (repeat' split) <;> simp

@[simp] theorem raiseIf_frame (c : Bool) (f : Flag) (s : State) :
    (raiseIf c f s).powered = s.powered ∧ (raiseIf c f s).pins = s.pins ∧ (raiseIf c f s).clock = s.clock ∧
    (raiseIf c f s).trunk = s.trunk ∧ (raiseIf c f s).framer = s.framer ∧ (raiseIf c f s).tb = s.tb ∧
    (raiseIf c f s).station = s.station ∧ (raiseIf c f s).progress = s.progress ∧
    (raiseIf c f s).roster = s.roster ∧ (raiseIf c f s).rollCall = s.rollCall ∧ (raiseIf c f s).map = s.map ∧
    (raiseIf c f s).out = s.out ∧ (raiseIf c f s).inb = s.inb ∧ (raiseIf c f s).mem = s.mem ∧
    (raiseIf c f s).trig = s.trig ∧ (raiseIf c f s).guard = s.guard ∧ (raiseIf c f s).frame = s.frame ∧
    (raiseIf c f s).service = s.service ∧ (raiseIf c f s).setup = s.setup ∧
    (raiseIf c f s).settings = s.settings ∧ (raiseIf c f s).snapshots = s.snapshots ∧
    (raiseIf c f s).pending = s.pending ∧
    (raiseIf c f s).freeDraws = s.freeDraws := by
  unfold raiseIf; (try dsimp only); (repeat' split) <;> simp

@[simp] theorem elapse_frame (n : Nat) (s : State) :
    (elapse n s).powered = s.powered ∧ (elapse n s).pins = s.pins ∧ (elapse n s).trunk = s.trunk ∧
    (elapse n s).framer = s.framer ∧ (elapse n s).tb = s.tb ∧ (elapse n s).station = s.station ∧
    (elapse n s).progress = s.progress ∧ (elapse n s).roster = s.roster ∧ (elapse n s).rollCall = s.rollCall ∧
    (elapse n s).map = s.map ∧ (elapse n s).out = s.out ∧ (elapse n s).inb = s.inb ∧ (elapse n s).mem = s.mem ∧
    (elapse n s).trig = s.trig ∧ (elapse n s).guard = s.guard ∧ (elapse n s).frame = s.frame ∧
    (elapse n s).service = s.service ∧ (elapse n s).setup = s.setup ∧ (elapse n s).settings = s.settings ∧
    (elapse n s).snapshots = s.snapshots ∧ (elapse n s).flags = s.flags ∧ (elapse n s).pending = s.pending ∧
    (elapse n s).freeDraws = s.freeDraws := by
  unfold elapse; (try dsimp only); (repeat' split) <;> simp

@[simp] theorem waitRack_frame (t : Nat) (s : State) :
    (waitRack t s).powered = s.powered ∧ (waitRack t s).pins = s.pins ∧ (waitRack t s).trunk = s.trunk ∧
    (waitRack t s).framer = s.framer ∧ (waitRack t s).tb = s.tb ∧ (waitRack t s).station = s.station ∧
    (waitRack t s).progress = s.progress ∧ (waitRack t s).roster = s.roster ∧
    (waitRack t s).rollCall = s.rollCall ∧ (waitRack t s).map = s.map ∧ (waitRack t s).out = s.out ∧
    (waitRack t s).inb = s.inb ∧ (waitRack t s).mem = s.mem ∧ (waitRack t s).trig = s.trig ∧
    (waitRack t s).guard = s.guard ∧ (waitRack t s).frame = s.frame ∧ (waitRack t s).service = s.service ∧
    (waitRack t s).setup = s.setup ∧ (waitRack t s).settings = s.settings ∧
    (waitRack t s).snapshots = s.snapshots ∧ (waitRack t s).flags = s.flags ∧ (waitRack t s).pending = s.pending ∧
    (waitRack t s).freeDraws = s.freeDraws := by
  unfold waitRack; (try dsimp only); (repeat' split) <;> simp

@[simp] theorem waitTicks_frame (t : Nat) (s : State) :
    (waitTicks t s).powered = s.powered ∧ (waitTicks t s).pins = s.pins ∧ (waitTicks t s).trunk = s.trunk ∧
    (waitTicks t s).framer = s.framer ∧ (waitTicks t s).tb = s.tb ∧ (waitTicks t s).station = s.station ∧
    (waitTicks t s).progress = s.progress ∧ (waitTicks t s).roster = s.roster ∧
    (waitTicks t s).rollCall = s.rollCall ∧ (waitTicks t s).map = s.map ∧ (waitTicks t s).out = s.out ∧
    (waitTicks t s).inb = s.inb ∧ (waitTicks t s).mem = s.mem ∧ (waitTicks t s).trig = s.trig ∧
    (waitTicks t s).guard = s.guard ∧ (waitTicks t s).frame = s.frame ∧ (waitTicks t s).service = s.service ∧
    (waitTicks t s).setup = s.setup ∧ (waitTicks t s).settings = s.settings ∧
    (waitTicks t s).snapshots = s.snapshots ∧ (waitTicks t s).flags = s.flags ∧
    (waitTicks t s).pending = s.pending ∧
    (waitTicks t s).freeDraws = s.freeDraws := by
  unfold waitTicks; (try dsimp only); (repeat' split) <;> simp

@[simp] theorem tick_frame (s : State) :
    (tick s).powered = s.powered ∧ (tick s).pins = s.pins ∧ (tick s).framer = s.framer ∧ (tick s).tb = s.tb ∧
    (tick s).station = s.station ∧ (tick s).progress = s.progress ∧ (tick s).roster = s.roster ∧
    (tick s).rollCall = s.rollCall ∧ (tick s).map = s.map ∧ (tick s).out = s.out ∧ (tick s).inb = s.inb ∧
    (tick s).mem = s.mem ∧ (tick s).trig = s.trig ∧ (tick s).guard = s.guard ∧ (tick s).frame = s.frame ∧
    (tick s).service = s.service ∧ (tick s).setup = s.setup ∧ (tick s).settings = s.settings ∧
    (tick s).snapshots = s.snapshots ∧ (tick s).flags = s.flags ∧ (tick s).pending = s.pending ∧
    (tick s).freeDraws = s.freeDraws ∧
    (tick s).trunk.switch = s.trunk.switch ∧ (tick s).trunk.sending = s.trunk.sending ∧
    (tick s).trunk.queue = s.trunk.queue ∧ (tick s).trunk.waiting = s.trunk.waiting := by
  unfold tick; (try dsimp only); (repeat' split) <;> simp

@[simp] theorem enqueue_frame (e : QueueEntry) (s : State) :
    (enqueue e s).powered = s.powered ∧ (enqueue e s).pins = s.pins ∧ (enqueue e s).clock = s.clock ∧
    (enqueue e s).framer = s.framer ∧ (enqueue e s).tb = s.tb ∧ (enqueue e s).station = s.station ∧
    (enqueue e s).progress = s.progress ∧ (enqueue e s).roster = s.roster ∧
    (enqueue e s).rollCall = s.rollCall ∧ (enqueue e s).map = s.map ∧ (enqueue e s).out = s.out ∧
    (enqueue e s).inb = s.inb ∧ (enqueue e s).mem = s.mem ∧ (enqueue e s).trig = s.trig ∧
    (enqueue e s).guard = s.guard ∧ (enqueue e s).frame = s.frame ∧ (enqueue e s).service = s.service ∧
    (enqueue e s).setup = s.setup ∧ (enqueue e s).settings = s.settings ∧
    (enqueue e s).snapshots = s.snapshots ∧ (enqueue e s).flags = s.flags ∧ (enqueue e s).pending = s.pending ∧
    (enqueue e s).freeDraws = s.freeDraws ∧
    (enqueue e s).trunk.switch = s.trunk.switch ∧ (enqueue e s).trunk.sending = s.trunk.sending ∧
    (enqueue e s).trunk.waiting = s.trunk.waiting := by
  unfold enqueue; (try dsimp only); (repeat' split) <;> simp

@[simp] theorem offerEntry_frame (e : QueueEntry) (s : State) :
    (offerEntry e s).powered = s.powered ∧ (offerEntry e s).pins = s.pins ∧ (offerEntry e s).clock = s.clock ∧
    (offerEntry e s).framer = s.framer ∧ (offerEntry e s).tb = s.tb ∧ (offerEntry e s).station = s.station ∧
    (offerEntry e s).progress = s.progress ∧ (offerEntry e s).roster = s.roster ∧
    (offerEntry e s).rollCall = s.rollCall ∧ (offerEntry e s).map = s.map ∧ (offerEntry e s).out = s.out ∧
    (offerEntry e s).inb = s.inb ∧ (offerEntry e s).mem = s.mem ∧ (offerEntry e s).trig = s.trig ∧
    (offerEntry e s).guard = s.guard ∧ (offerEntry e s).frame = s.frame ∧
    (offerEntry e s).service = s.service ∧ (offerEntry e s).setup = s.setup ∧
    (offerEntry e s).settings = s.settings ∧ (offerEntry e s).snapshots = s.snapshots ∧
    (offerEntry e s).flags = s.flags ∧ (offerEntry e s).pending = s.pending ∧
    (offerEntry e s).freeDraws = s.freeDraws ∧
    (offerEntry e s).trunk.switch = s.trunk.switch ∧ (offerEntry e s).trunk.sending = s.trunk.sending := by
  unfold offerEntry; (try dsimp only); (repeat' split) <;> simp

@[simp] theorem offerAll_frame (l : List QueueEntry) (s : State) :
    (offerAll l s).powered = s.powered ∧ (offerAll l s).pins = s.pins ∧ (offerAll l s).clock = s.clock ∧
    (offerAll l s).framer = s.framer ∧ (offerAll l s).tb = s.tb ∧ (offerAll l s).station = s.station ∧
    (offerAll l s).progress = s.progress ∧ (offerAll l s).roster = s.roster ∧
    (offerAll l s).rollCall = s.rollCall ∧ (offerAll l s).map = s.map ∧ (offerAll l s).out = s.out ∧
    (offerAll l s).inb = s.inb ∧ (offerAll l s).mem = s.mem ∧ (offerAll l s).trig = s.trig ∧
    (offerAll l s).guard = s.guard ∧ (offerAll l s).frame = s.frame ∧ (offerAll l s).service = s.service ∧
    (offerAll l s).setup = s.setup ∧ (offerAll l s).settings = s.settings ∧
    (offerAll l s).snapshots = s.snapshots ∧ (offerAll l s).flags = s.flags ∧
    (offerAll l s).pending = s.pending ∧
    (offerAll l s).freeDraws = s.freeDraws ∧ (offerAll l s).trunk.switch = s.trunk.switch ∧
    (offerAll l s).trunk.sending = s.trunk.sending := by
  induction l generalizing s with
  | nil => simp [offerAll]
  | cons x xs ih => simp [offerAll, ih]

@[simp] theorem reofferWaiting_frame (s : State) :
    (reofferWaiting s).powered = s.powered ∧ (reofferWaiting s).pins = s.pins ∧
    (reofferWaiting s).clock = s.clock ∧ (reofferWaiting s).framer = s.framer ∧ (reofferWaiting s).tb = s.tb ∧
    (reofferWaiting s).station = s.station ∧ (reofferWaiting s).progress = s.progress ∧
    (reofferWaiting s).roster = s.roster ∧ (reofferWaiting s).rollCall = s.rollCall ∧
    (reofferWaiting s).map = s.map ∧ (reofferWaiting s).out = s.out ∧ (reofferWaiting s).inb = s.inb ∧
    (reofferWaiting s).mem = s.mem ∧ (reofferWaiting s).trig = s.trig ∧ (reofferWaiting s).guard = s.guard ∧
    (reofferWaiting s).frame = s.frame ∧ (reofferWaiting s).service = s.service ∧
    (reofferWaiting s).setup = s.setup ∧ (reofferWaiting s).settings = s.settings ∧
    (reofferWaiting s).snapshots = s.snapshots ∧ (reofferWaiting s).flags = s.flags ∧
    (reofferWaiting s).pending = s.pending ∧
    (reofferWaiting s).freeDraws = s.freeDraws ∧ (reofferWaiting s).trunk.switch = s.trunk.switch ∧
    (reofferWaiting s).trunk.sending = s.trunk.sending := by
  unfold reofferWaiting; (try dsimp only); (repeat' split) <;> simp

@[simp] theorem withdrawEntries_frame (p : QueueEntry → Bool) (s : State) :
    (withdrawEntries p s).powered = s.powered ∧ (withdrawEntries p s).pins = s.pins ∧
    (withdrawEntries p s).clock = s.clock ∧ (withdrawEntries p s).framer = s.framer ∧
    (withdrawEntries p s).tb = s.tb ∧ (withdrawEntries p s).station = s.station ∧
    (withdrawEntries p s).progress = s.progress ∧ (withdrawEntries p s).roster = s.roster ∧
    (withdrawEntries p s).rollCall = s.rollCall ∧ (withdrawEntries p s).map = s.map ∧
    (withdrawEntries p s).out = s.out ∧ (withdrawEntries p s).inb = s.inb ∧ (withdrawEntries p s).mem = s.mem ∧
    (withdrawEntries p s).trig = s.trig ∧ (withdrawEntries p s).guard = s.guard ∧
    (withdrawEntries p s).frame = s.frame ∧ (withdrawEntries p s).service = s.service ∧
    (withdrawEntries p s).setup = s.setup ∧ (withdrawEntries p s).settings = s.settings ∧
    (withdrawEntries p s).snapshots = s.snapshots ∧ (withdrawEntries p s).flags = s.flags ∧
    (withdrawEntries p s).pending = s.pending ∧
    (withdrawEntries p s).freeDraws = s.freeDraws ∧ (withdrawEntries p s).trunk.switch = s.trunk.switch ∧
    (withdrawEntries p s).trunk.sending = s.trunk.sending := by
  unfold withdrawEntries; (try dsimp only); (repeat' split) <;> simp

@[simp] theorem startPacket_frame (p : Packet) (e : Option QueueEntry) (s : State) :
    (startPacket p e s).powered = s.powered ∧ (startPacket p e s).pins = s.pins ∧
    (startPacket p e s).clock = s.clock ∧ (startPacket p e s).framer = s.framer ∧
    (startPacket p e s).tb = s.tb ∧ (startPacket p e s).station = s.station ∧
    (startPacket p e s).progress = s.progress ∧ (startPacket p e s).roster = s.roster ∧
    (startPacket p e s).rollCall = s.rollCall ∧ (startPacket p e s).map = s.map ∧
    (startPacket p e s).out = s.out ∧ (startPacket p e s).inb = s.inb ∧ (startPacket p e s).mem = s.mem ∧
    (startPacket p e s).trig = s.trig ∧ (startPacket p e s).guard = s.guard ∧
    (startPacket p e s).frame = s.frame ∧ (startPacket p e s).service = s.service ∧
    (startPacket p e s).setup = s.setup ∧ (startPacket p e s).settings = s.settings ∧
    (startPacket p e s).snapshots = s.snapshots ∧ (startPacket p e s).flags = s.flags ∧
    (startPacket p e s).pending = s.pending ∧
    (startPacket p e s).freeDraws = s.freeDraws ∧ (startPacket p e s).trunk.switch = s.trunk.switch ∧
    (startPacket p e s).trunk.queue = s.trunk.queue ∧ (startPacket p e s).trunk.waiting = s.trunk.waiting := by
  unfold startPacket; (try dsimp only); (repeat' split) <;> simp

@[simp] theorem endSending_frame (s : State) :
    (endSending s).powered = s.powered ∧ (endSending s).pins = s.pins ∧ (endSending s).clock = s.clock ∧
    (endSending s).framer = s.framer ∧ (endSending s).tb = s.tb ∧ (endSending s).station = s.station ∧
    (endSending s).progress = s.progress ∧ (endSending s).roster = s.roster ∧
    (endSending s).rollCall = s.rollCall ∧ (endSending s).map = s.map ∧ (endSending s).out = s.out ∧
    (endSending s).inb = s.inb ∧ (endSending s).mem = s.mem ∧ (endSending s).trig = s.trig ∧
    (endSending s).guard = s.guard ∧ (endSending s).frame = s.frame ∧ (endSending s).service = s.service ∧
    (endSending s).setup = s.setup ∧ (endSending s).settings = s.settings ∧
    (endSending s).snapshots = s.snapshots ∧ (endSending s).flags = s.flags ∧
    (endSending s).pending = s.pending ∧
    (endSending s).freeDraws = s.freeDraws ∧ (endSending s).trunk.switch = s.trunk.switch ∧
    (endSending s).trunk.queue = s.trunk.queue ∧ (endSending s).trunk.waiting = s.trunk.waiting := by
  unfold endSending; (try dsimp only); (repeat' split) <;> simp

@[simp] theorem passReadBack_frame (s : State) :
    (passReadBack s).powered = s.powered ∧ (passReadBack s).pins = s.pins ∧ (passReadBack s).clock = s.clock ∧
    (passReadBack s).framer = s.framer ∧ (passReadBack s).tb = s.tb ∧ (passReadBack s).station = s.station ∧
    (passReadBack s).progress = s.progress ∧ (passReadBack s).roster = s.roster ∧
    (passReadBack s).rollCall = s.rollCall ∧ (passReadBack s).map = s.map ∧ (passReadBack s).out = s.out ∧
    (passReadBack s).inb = s.inb ∧ (passReadBack s).mem = s.mem ∧ (passReadBack s).trig = s.trig ∧
    (passReadBack s).guard = s.guard ∧ (passReadBack s).frame = s.frame ∧
    (passReadBack s).service = s.service ∧ (passReadBack s).setup = s.setup ∧
    (passReadBack s).settings = s.settings ∧ (passReadBack s).snapshots = s.snapshots ∧
    (passReadBack s).flags = s.flags ∧ (passReadBack s).pending = s.pending ∧
    (passReadBack s).freeDraws = s.freeDraws ∧
    (passReadBack s).trunk.switch = s.trunk.switch ∧ (passReadBack s).trunk.waiting = s.trunk.waiting := by
  unfold passReadBack; (try dsimp only); (repeat' split) <;> simp

@[simp] theorem packetEnded_frame (whole : Bool) (s : State) :
    (packetEnded whole s).powered = s.powered ∧ (packetEnded whole s).pins = s.pins ∧
    (packetEnded whole s).clock = s.clock ∧ (packetEnded whole s).framer = s.framer ∧
    (packetEnded whole s).tb = s.tb ∧ (packetEnded whole s).station = s.station ∧
    (packetEnded whole s).progress = s.progress ∧ (packetEnded whole s).roster = s.roster ∧
    (packetEnded whole s).rollCall = s.rollCall ∧ (packetEnded whole s).map = s.map ∧
    (packetEnded whole s).out = s.out ∧ (packetEnded whole s).inb = s.inb ∧ (packetEnded whole s).mem = s.mem ∧
    (packetEnded whole s).trig = s.trig ∧ (packetEnded whole s).guard = s.guard ∧
    (packetEnded whole s).frame = s.frame ∧ (packetEnded whole s).service = s.service ∧
    (packetEnded whole s).setup = s.setup ∧ (packetEnded whole s).settings = s.settings ∧
    (packetEnded whole s).snapshots = s.snapshots ∧ (packetEnded whole s).flags = s.flags ∧
    (packetEnded whole s).pending = s.pending ∧
    (packetEnded whole s).freeDraws = s.freeDraws ∧ (packetEnded whole s).trunk.switch = s.trunk.switch ∧
    (packetEnded whole s).trunk.sending = s.trunk.sending ∧ (packetEnded whole s).trunk.queue = s.trunk.queue ∧
    (packetEnded whole s).trunk.waiting = s.trunk.waiting := by
  unfold packetEnded; (try dsimp only); (repeat' split) <;> simp

@[simp] theorem declarePosition_frame (p : Position) (s : State) :
    (declarePosition p s).powered = s.powered ∧ (declarePosition p s).pins = s.pins ∧
    (declarePosition p s).trunk = s.trunk ∧ (declarePosition p s).tb = s.tb ∧
    (declarePosition p s).station = s.station ∧ (declarePosition p s).progress = s.progress ∧
    (declarePosition p s).roster = s.roster ∧ (declarePosition p s).rollCall = s.rollCall ∧
    (declarePosition p s).map = s.map ∧ (declarePosition p s).out = s.out ∧ (declarePosition p s).inb = s.inb ∧
    (declarePosition p s).mem = s.mem ∧ (declarePosition p s).trig = s.trig ∧
    (declarePosition p s).guard = s.guard ∧ (declarePosition p s).frame = s.frame ∧
    (declarePosition p s).service = s.service ∧ (declarePosition p s).setup = s.setup ∧
    (declarePosition p s).settings = s.settings ∧ (declarePosition p s).snapshots = s.snapshots ∧
    (declarePosition p s).flags = s.flags ∧ (declarePosition p s).pending = s.pending ∧
    (declarePosition p s).freeDraws = s.freeDraws ∧
    (declarePosition p s).framer.framed = s.framer.framed ∧
    (declarePosition p s).framer.round = s.framer.round ∧
    (declarePosition p s).framer.opening = s.framer.opening := by
  unfold declarePosition; (try dsimp only); (repeat' split) <;> simp

@[simp] theorem takeSnapshot_frame (s : State) :
    (takeSnapshot s).powered = s.powered ∧ (takeSnapshot s).pins = s.pins ∧ (takeSnapshot s).clock = s.clock ∧
    (takeSnapshot s).trunk = s.trunk ∧ (takeSnapshot s).framer = s.framer ∧ (takeSnapshot s).tb = s.tb ∧
    (takeSnapshot s).station = s.station ∧ (takeSnapshot s).progress = s.progress ∧
    (takeSnapshot s).roster = s.roster ∧ (takeSnapshot s).rollCall = s.rollCall ∧
    (takeSnapshot s).map = s.map ∧ (takeSnapshot s).out = s.out ∧ (takeSnapshot s).inb = s.inb ∧
    (takeSnapshot s).mem = s.mem ∧ (takeSnapshot s).trig = s.trig ∧ (takeSnapshot s).guard = s.guard ∧
    (takeSnapshot s).frame = s.frame ∧ (takeSnapshot s).service = s.service ∧
    (takeSnapshot s).setup = s.setup ∧ (takeSnapshot s).settings = s.settings ∧
    (takeSnapshot s).flags = s.flags ∧ (takeSnapshot s).pending = s.pending ∧
    (takeSnapshot s).freeDraws = s.freeDraws := by
  unfold takeSnapshot; (try dsimp only); (repeat' split) <;> simp

@[simp] theorem takePendingSnapshot_frame (s : State) :
    (takePendingSnapshot s).powered = s.powered ∧ (takePendingSnapshot s).pins = s.pins ∧
    (takePendingSnapshot s).clock = s.clock ∧ (takePendingSnapshot s).trunk = s.trunk ∧
    (takePendingSnapshot s).framer = s.framer ∧ (takePendingSnapshot s).tb = s.tb ∧
    (takePendingSnapshot s).station = s.station ∧ (takePendingSnapshot s).progress = s.progress ∧
    (takePendingSnapshot s).roster = s.roster ∧ (takePendingSnapshot s).rollCall = s.rollCall ∧
    (takePendingSnapshot s).map = s.map ∧ (takePendingSnapshot s).out = s.out ∧
    (takePendingSnapshot s).inb = s.inb ∧ (takePendingSnapshot s).mem = s.mem ∧
    (takePendingSnapshot s).trig = s.trig ∧ (takePendingSnapshot s).guard = s.guard ∧
    (takePendingSnapshot s).frame = s.frame ∧ (takePendingSnapshot s).service = s.service ∧
    (takePendingSnapshot s).setup = s.setup ∧ (takePendingSnapshot s).settings = s.settings ∧
    (takePendingSnapshot s).flags = s.flags ∧ (takePendingSnapshot s).pending = s.pending ∧
    (takePendingSnapshot s).freeDraws = s.freeDraws := by
  unfold takePendingSnapshot; (try dsimp only); (repeat' split) <;> simp

end Sys2Proof.Machine
end

