-- ==== Sys2Proof/Laws/FrameEngines.lean ====
section
/-! SUPPORT. What each function leaves unchanged, field by field (the two engines). -/
namespace Sys2Proof.Machine

/-- A function of the state that `f` keeps for every channel is kept by doing `f` for all channels. -/
theorem eachChannel_keeps {α : Type} (p : State → α) (f : Channel → State → State) (h : ∀ ch s, p (f ch s) = p s)
    (s : State) : p (eachChannel f s) = p s := by
  unfold eachChannel
  generalize List.finRange 8 = l
  induction l generalizing s with
  | nil => rfl
  | cons x xs ih => rw [List.foldl_cons, ih, h]

/-- What every channel's `f` keeps true stays true when `f` is done for all channels. -/
theorem eachChannel_holds (P : State → Prop) (f : Channel → State → State) (h : ∀ ch s, P s → P (f ch s)) (s : State)
    (hs : P s) : P (eachChannel f s) := by
  unfold eachChannel
  generalize List.finRange 8 = l
  induction l generalizing s with
  | nil => exact hs
  | cons x xs ih => exact ih _ (h x s hs)

@[simp] theorem setIn_inb (ch : Channel) (c : InChannel) (s : State) : (setIn ch c s).inb = s.inb.set ch c := rfl

@[simp] theorem setOut_out (ch : Channel) (c : OutChannel) (s : State) : (setOut ch c s).out = s.out.set ch c := rfl

@[simp] theorem modifyOut_out (ch : Channel) (f : OutChannel → OutChannel) (s : State) :
    (modifyOut ch f s).out = s.out.set ch (f (s.out.get ch)) := rfl

@[simp] theorem eachChannel_powered (f : Channel → State → State) (h : ∀ ch s, (f ch s).powered = s.powered) (s : State) :
    (eachChannel f s).powered = s.powered :=
  eachChannel_keeps (fun s => s.powered) f h s

@[simp] theorem eachChannel_pins (f : Channel → State → State) (h : ∀ ch s, (f ch s).pins = s.pins) (s : State) :
    (eachChannel f s).pins = s.pins :=
  eachChannel_keeps (fun s => s.pins) f h s

@[simp] theorem eachChannel_clock (f : Channel → State → State) (h : ∀ ch s, (f ch s).clock = s.clock) (s : State) :
    (eachChannel f s).clock = s.clock :=
  eachChannel_keeps (fun s => s.clock) f h s

@[simp] theorem eachChannel_trunk (f : Channel → State → State) (h : ∀ ch s, (f ch s).trunk = s.trunk) (s : State) :
    (eachChannel f s).trunk = s.trunk :=
  eachChannel_keeps (fun s => s.trunk) f h s

@[simp] theorem eachChannel_framer (f : Channel → State → State) (h : ∀ ch s, (f ch s).framer = s.framer) (s : State) :
    (eachChannel f s).framer = s.framer :=
  eachChannel_keeps (fun s => s.framer) f h s

@[simp] theorem eachChannel_tb (f : Channel → State → State) (h : ∀ ch s, (f ch s).tb = s.tb) (s : State) :
    (eachChannel f s).tb = s.tb :=
  eachChannel_keeps (fun s => s.tb) f h s

@[simp] theorem eachChannel_station (f : Channel → State → State) (h : ∀ ch s, (f ch s).station = s.station) (s : State) :
    (eachChannel f s).station = s.station :=
  eachChannel_keeps (fun s => s.station) f h s

@[simp] theorem eachChannel_progress (f : Channel → State → State) (h : ∀ ch s, (f ch s).progress = s.progress) (s : State) :
    (eachChannel f s).progress = s.progress :=
  eachChannel_keeps (fun s => s.progress) f h s

@[simp] theorem eachChannel_roster (f : Channel → State → State) (h : ∀ ch s, (f ch s).roster = s.roster) (s : State) :
    (eachChannel f s).roster = s.roster :=
  eachChannel_keeps (fun s => s.roster) f h s

@[simp] theorem eachChannel_rollCall (f : Channel → State → State) (h : ∀ ch s, (f ch s).rollCall = s.rollCall) (s : State) :
    (eachChannel f s).rollCall = s.rollCall :=
  eachChannel_keeps (fun s => s.rollCall) f h s

@[simp] theorem eachChannel_map (f : Channel → State → State) (h : ∀ ch s, (f ch s).map = s.map) (s : State) :
    (eachChannel f s).map = s.map :=
  eachChannel_keeps (fun s => s.map) f h s

@[simp] theorem eachChannel_out (f : Channel → State → State) (h : ∀ ch s, (f ch s).out = s.out) (s : State) :
    (eachChannel f s).out = s.out :=
  eachChannel_keeps (fun s => s.out) f h s

@[simp] theorem eachChannel_inb (f : Channel → State → State) (h : ∀ ch s, (f ch s).inb = s.inb) (s : State) :
    (eachChannel f s).inb = s.inb :=
  eachChannel_keeps (fun s => s.inb) f h s

@[simp] theorem eachChannel_mem (f : Channel → State → State) (h : ∀ ch s, (f ch s).mem = s.mem) (s : State) :
    (eachChannel f s).mem = s.mem :=
  eachChannel_keeps (fun s => s.mem) f h s

@[simp] theorem eachChannel_trig (f : Channel → State → State) (h : ∀ ch s, (f ch s).trig = s.trig) (s : State) :
    (eachChannel f s).trig = s.trig :=
  eachChannel_keeps (fun s => s.trig) f h s

@[simp] theorem eachChannel_guard (f : Channel → State → State) (h : ∀ ch s, (f ch s).guard = s.guard) (s : State) :
    (eachChannel f s).guard = s.guard :=
  eachChannel_keeps (fun s => s.guard) f h s

@[simp] theorem eachChannel_frame (f : Channel → State → State) (h : ∀ ch s, (f ch s).frame = s.frame) (s : State) :
    (eachChannel f s).frame = s.frame :=
  eachChannel_keeps (fun s => s.frame) f h s

@[simp] theorem eachChannel_service (f : Channel → State → State) (h : ∀ ch s, (f ch s).service = s.service) (s : State) :
    (eachChannel f s).service = s.service :=
  eachChannel_keeps (fun s => s.service) f h s

@[simp] theorem eachChannel_setup (f : Channel → State → State) (h : ∀ ch s, (f ch s).setup = s.setup) (s : State) :
    (eachChannel f s).setup = s.setup :=
  eachChannel_keeps (fun s => s.setup) f h s

@[simp] theorem eachChannel_settings (f : Channel → State → State) (h : ∀ ch s, (f ch s).settings = s.settings) (s : State) :
    (eachChannel f s).settings = s.settings :=
  eachChannel_keeps (fun s => s.settings) f h s

@[simp] theorem eachChannel_snapshots (f : Channel → State → State) (h : ∀ ch s, (f ch s).snapshots = s.snapshots) (s : State) :
    (eachChannel f s).snapshots = s.snapshots :=
  eachChannel_keeps (fun s => s.snapshots) f h s

@[simp] theorem eachChannel_flags (f : Channel → State → State) (h : ∀ ch s, (f ch s).flags = s.flags) (s : State) :
    (eachChannel f s).flags = s.flags :=
  eachChannel_keeps (fun s => s.flags) f h s

@[simp] theorem eachChannel_pending (f : Channel → State → State) (h : ∀ ch s, (f ch s).pending = s.pending) (s : State) :
    (eachChannel f s).pending = s.pending :=
  eachChannel_keeps (fun s => s.pending) f h s

@[simp] theorem eachChannel_freeDraws (f : Channel → State → State) (h : ∀ ch s, (f ch s).freeDraws = s.freeDraws) (s : State) :
    (eachChannel f s).freeDraws = s.freeDraws :=
  eachChannel_keeps (fun s => s.freeDraws) f h s

@[simp] theorem eachChannel_trunk_switch (f : Channel → State → State) (h : ∀ ch s, (f ch s).trunk.switch = s.trunk.switch) (s : State) :
    (eachChannel f s).trunk.switch = s.trunk.switch :=
  eachChannel_keeps (fun s => s.trunk.switch) f h s

@[simp] theorem eachChannel_trunk_sending (f : Channel → State → State) (h : ∀ ch s, (f ch s).trunk.sending = s.trunk.sending) (s : State) :
    (eachChannel f s).trunk.sending = s.trunk.sending :=
  eachChannel_keeps (fun s => s.trunk.sending) f h s

@[simp] theorem eachChannel_trunk_queue (f : Channel → State → State) (h : ∀ ch s, (f ch s).trunk.queue = s.trunk.queue) (s : State) :
    (eachChannel f s).trunk.queue = s.trunk.queue :=
  eachChannel_keeps (fun s => s.trunk.queue) f h s

@[simp] theorem eachChannel_trunk_waiting (f : Channel → State → State) (h : ∀ ch s, (f ch s).trunk.waiting = s.trunk.waiting) (s : State) :
    (eachChannel f s).trunk.waiting = s.trunk.waiting :=
  eachChannel_keeps (fun s => s.trunk.waiting) f h s

@[simp] theorem eachChannel_tb_role (f : Channel → State → State) (h : ∀ ch s, (f ch s).tb.role = s.tb.role) (s : State) :
    (eachChannel f s).tb.role = s.tb.role :=
  eachChannel_keeps (fun s => s.tb.role) f h s

@[simp] theorem eachChannel_tb_designated (f : Channel → State → State) (h : ∀ ch s, (f ch s).tb.designated = s.tb.designated) (s : State) :
    (eachChannel f s).tb.designated = s.tb.designated :=
  eachChannel_keeps (fun s => s.tb.designated) f h s

@[simp] theorem eachChannel_tb_election (f : Channel → State → State) (h : ∀ ch s, (f ch s).tb.election = s.tb.election) (s : State) :
    (eachChannel f s).tb.election = s.tb.election :=
  eachChannel_keeps (fun s => s.tb.election) f h s

@[simp] theorem eachChannel_tb_period (f : Channel → State → State) (h : ∀ ch s, (f ch s).tb.period = s.tb.period) (s : State) :
    (eachChannel f s).tb.period = s.tb.period :=
  eachChannel_keeps (fun s => s.tb.period) f h s

@[simp] theorem eachChannel_station_state (f : Channel → State → State) (h : ∀ ch s, (f ch s).station.state = s.station.state) (s : State) :
    (eachChannel f s).station.state = s.station.state :=
  eachChannel_keeps (fun s => s.station.state) f h s

@[simp] theorem eachChannel_framer_framed (f : Channel → State → State) (h : ∀ ch s, (f ch s).framer.framed = s.framer.framed) (s : State) :
    (eachChannel f s).framer.framed = s.framer.framed :=
  eachChannel_keeps (fun s => s.framer.framed) f h s

@[simp] theorem eachChannel_framer_round (f : Channel → State → State) (h : ∀ ch s, (f ch s).framer.round = s.framer.round) (s : State) :
    (eachChannel f s).framer.round = s.framer.round :=
  eachChannel_keeps (fun s => s.framer.round) f h s

@[simp] theorem eachChannel_framer_opening (f : Channel → State → State) (h : ∀ ch s, (f ch s).framer.opening = s.framer.opening) (s : State) :
    (eachChannel f s).framer.opening = s.framer.opening :=
  eachChannel_keeps (fun s => s.framer.opening) f h s

@[simp] theorem eachChannel_guard_state (f : Channel → State → State) (h : ∀ ch s, (f ch s).guard.state = s.guard.state) (s : State) :
    (eachChannel f s).guard.state = s.guard.state :=
  eachChannel_keeps (fun s => s.guard.state) f h s

@[simp] theorem eachChannel_guard_interval (f : Channel → State → State) (h : ∀ ch s, (f ch s).guard.interval = s.guard.interval) (s : State) :
    (eachChannel f s).guard.interval = s.guard.interval :=
  eachChannel_keeps (fun s => s.guard.interval) f h s

@[simp] theorem eachChannel_guard_thresholds (f : Channel → State → State) (h : ∀ ch s, (f ch s).guard.thresholds = s.guard.thresholds) (s : State) :
    (eachChannel f s).guard.thresholds = s.guard.thresholds :=
  eachChannel_keeps (fun s => s.guard.thresholds) f h s

@[simp] theorem eachChannel_map_resync (f : Channel → State → State) (h : ∀ ch s, (f ch s).map.resync = s.map.resync) (s : State) :
    (eachChannel f s).map.resync = s.map.resync :=
  eachChannel_keeps (fun s => s.map.resync) f h s

@[simp] theorem eachChannel_map_entries (f : Channel → State → State) (h : ∀ ch s, (f ch s).map.entries = s.map.entries) (s : State) :
    (eachChannel f s).map.entries = s.map.entries :=
  eachChannel_keeps (fun s => s.map.entries) f h s

@[simp] theorem eachChannel_map_epoch (f : Channel → State → State) (h : ∀ ch s, (f ch s).map.epoch = s.map.epoch) (s : State) :
    (eachChannel f s).map.epoch = s.map.epoch :=
  eachChannel_keeps (fun s => s.map.epoch) f h s

@[simp] theorem eachChannel_progress_leaveClosingDue (f : Channel → State → State) (h : ∀ ch s, (f ch s).progress.leaveClosingDue = s.progress.leaveClosingDue) (s : State) :
    (eachChannel f s).progress.leaveClosingDue = s.progress.leaveClosingDue :=
  eachChannel_keeps (fun s => s.progress.leaveClosingDue) f h s

@[simp] theorem eachChannel_progress_leavingDue (f : Channel → State → State) (h : ∀ ch s, (f ch s).progress.leavingDue = s.progress.leavingDue) (s : State) :
    (eachChannel f s).progress.leavingDue = s.progress.leavingDue :=
  eachChannel_keeps (fun s => s.progress.leavingDue) f h s

@[simp] theorem eachChannel_progress_ownLeaveTaken (f : Channel → State → State) (h : ∀ ch s, (f ch s).progress.ownLeaveTaken = s.progress.ownLeaveTaken) (s : State) :
    (eachChannel f s).progress.ownLeaveTaken = s.progress.ownLeaveTaken :=
  eachChannel_keeps (fun s => s.progress.ownLeaveTaken) f h s

@[simp] theorem eachChannel_tb_lock (f : Channel → State → State) (h : ∀ ch s, (f ch s).tb.lock = s.tb.lock) (s : State) :
    (eachChannel f s).tb.lock = s.tb.lock :=
  eachChannel_keeps (fun s => s.tb.lock) f h s

@[simp] theorem eachChannel_tb_listen (f : Channel → State → State) (h : ∀ ch s, (f ch s).tb.listen = s.tb.listen) (s : State) :
    (eachChannel f s).tb.listen = s.tb.listen :=
  eachChannel_keeps (fun s => s.tb.listen) f h s

@[simp] theorem eachChannel_tb_missed (f : Channel → State → State) (h : ∀ ch s, (f ch s).tb.missed = s.tb.missed) (s : State) :
    (eachChannel f s).tb.missed = s.tb.missed :=
  eachChannel_keeps (fun s => s.tb.missed) f h s

@[simp] theorem eachChannel_tb_expected (f : Channel → State → State) (h : ∀ ch s, (f ch s).tb.expected = s.tb.expected) (s : State) :
    (eachChannel f s).tb.expected = s.tb.expected :=
  eachChannel_keeps (fun s => s.tb.expected) f h s

@[simp] theorem eachChannel_tb_markDue (f : Channel → State → State) (h : ∀ ch s, (f ch s).tb.markDue = s.tb.markDue) (s : State) :
    (eachChannel f s).tb.markDue = s.tb.markDue :=
  eachChannel_keeps (fun s => s.tb.markDue) f h s

@[simp] theorem eachChannel_tb_orphan (f : Channel → State → State) (h : ∀ ch s, (f ch s).tb.orphan = s.tb.orphan) (s : State) :
    (eachChannel f s).tb.orphan = s.tb.orphan :=
  eachChannel_keeps (fun s => s.tb.orphan) f h s

@[simp] theorem eachChannel_trig_pendingTrigger (f : Channel → State → State) (h : ∀ ch s, (f ch s).trig.pendingTrigger = s.trig.pendingTrigger) (s : State) :
    (eachChannel f s).trig.pendingTrigger = s.trig.pendingTrigger :=
  eachChannel_keeps (fun s => s.trig.pendingTrigger) f h s

@[simp] theorem eachChannel_trig_settings (f : Channel → State → State) (h : ∀ ch s, (f ch s).trig.settings = s.trig.settings) (s : State) :
    (eachChannel f s).trig.settings = s.trig.settings :=
  eachChannel_keeps (fun s => s.trig.settings) f h s

@[simp] theorem eachChannel_trig_filtered (f : Channel → State → State) (h : ∀ ch s, (f ch s).trig.filtered = s.trig.filtered) (s : State) :
    (eachChannel f s).trig.filtered = s.trig.filtered :=
  eachChannel_keeps (fun s => s.trig.filtered) f h s

@[simp] theorem setIn_frame (ch : Channel) (c : InChannel) (s : State) :
    (setIn ch c s).powered = s.powered ∧ (setIn ch c s).pins = s.pins ∧ (setIn ch c s).clock = s.clock ∧
    (setIn ch c s).trunk = s.trunk ∧ (setIn ch c s).framer = s.framer ∧ (setIn ch c s).tb = s.tb ∧
    (setIn ch c s).station = s.station ∧ (setIn ch c s).progress = s.progress ∧
    (setIn ch c s).roster = s.roster ∧ (setIn ch c s).rollCall = s.rollCall ∧ (setIn ch c s).map = s.map ∧
    (setIn ch c s).out = s.out ∧ (setIn ch c s).mem = s.mem ∧ (setIn ch c s).trig = s.trig ∧
    (setIn ch c s).guard = s.guard ∧ (setIn ch c s).frame = s.frame ∧ (setIn ch c s).service = s.service ∧
    (setIn ch c s).setup = s.setup ∧ (setIn ch c s).settings = s.settings ∧
    (setIn ch c s).snapshots = s.snapshots ∧ (setIn ch c s).flags = s.flags ∧ (setIn ch c s).pending = s.pending ∧
    (setIn ch c s).freeDraws = s.freeDraws := by
  unfold setIn; (try dsimp only); (repeat' split) <;> simp

@[simp] theorem handTrigger_frame (localOrigin : Bool) (t : Trigger) (s : State) :
    (handTrigger localOrigin t s).powered = s.powered ∧ (handTrigger localOrigin t s).pins = s.pins ∧
    (handTrigger localOrigin t s).clock = s.clock ∧ (handTrigger localOrigin t s).trunk = s.trunk ∧
    (handTrigger localOrigin t s).framer = s.framer ∧ (handTrigger localOrigin t s).tb = s.tb ∧
    (handTrigger localOrigin t s).station = s.station ∧ (handTrigger localOrigin t s).progress = s.progress ∧
    (handTrigger localOrigin t s).roster = s.roster ∧ (handTrigger localOrigin t s).rollCall = s.rollCall ∧
    (handTrigger localOrigin t s).map = s.map ∧ (handTrigger localOrigin t s).out = s.out ∧
    (handTrigger localOrigin t s).mem = s.mem ∧ (handTrigger localOrigin t s).trig = s.trig ∧
    (handTrigger localOrigin t s).guard = s.guard ∧ (handTrigger localOrigin t s).frame = s.frame ∧
    (handTrigger localOrigin t s).service = s.service ∧ (handTrigger localOrigin t s).setup = s.setup ∧
    (handTrigger localOrigin t s).settings = s.settings ∧
    (handTrigger localOrigin t s).snapshots = s.snapshots ∧ (handTrigger localOrigin t s).flags = s.flags ∧
    (handTrigger localOrigin t s).pending = s.pending ∧
    (handTrigger localOrigin t s).freeDraws = s.freeDraws := by
  unfold handTrigger; (try dsimp only); (repeat' split) <;> simp

@[simp] theorem channelTakes_frame (p : Sample) (failed : Bool) (ch : Channel) (s : State) :
    (channelTakes p failed ch s).powered = s.powered ∧ (channelTakes p failed ch s).pins = s.pins ∧
    (channelTakes p failed ch s).clock = s.clock ∧ (channelTakes p failed ch s).trunk = s.trunk ∧
    (channelTakes p failed ch s).framer = s.framer ∧ (channelTakes p failed ch s).tb = s.tb ∧
    (channelTakes p failed ch s).station = s.station ∧ (channelTakes p failed ch s).progress = s.progress ∧
    (channelTakes p failed ch s).roster = s.roster ∧ (channelTakes p failed ch s).rollCall = s.rollCall ∧
    (channelTakes p failed ch s).map = s.map ∧ (channelTakes p failed ch s).out = s.out ∧
    (channelTakes p failed ch s).trig = s.trig ∧ (channelTakes p failed ch s).guard = s.guard ∧
    (channelTakes p failed ch s).frame = s.frame ∧ (channelTakes p failed ch s).service = s.service ∧
    (channelTakes p failed ch s).setup = s.setup ∧ (channelTakes p failed ch s).settings = s.settings ∧
    (channelTakes p failed ch s).snapshots = s.snapshots ∧ (channelTakes p failed ch s).pending = s.pending ∧
    (channelTakes p failed ch s).freeDraws = s.freeDraws := by
  unfold channelTakes; (try dsimp only); (repeat' split) <;> simp

@[simp] theorem deliverSample_frame (p : Sample) (failed : Bool) (s : State) :
    (deliverSample p failed s).powered = s.powered ∧ (deliverSample p failed s).pins = s.pins ∧
    (deliverSample p failed s).clock = s.clock ∧ (deliverSample p failed s).trunk = s.trunk ∧
    (deliverSample p failed s).framer = s.framer ∧ (deliverSample p failed s).tb = s.tb ∧
    (deliverSample p failed s).station = s.station ∧ (deliverSample p failed s).progress = s.progress ∧
    (deliverSample p failed s).roster = s.roster ∧ (deliverSample p failed s).rollCall = s.rollCall ∧
    (deliverSample p failed s).map = s.map ∧ (deliverSample p failed s).out = s.out ∧
    (deliverSample p failed s).trig = s.trig ∧ (deliverSample p failed s).guard = s.guard ∧
    (deliverSample p failed s).frame = s.frame ∧ (deliverSample p failed s).service = s.service ∧
    (deliverSample p failed s).setup = s.setup ∧ (deliverSample p failed s).settings = s.settings ∧
    (deliverSample p failed s).snapshots = s.snapshots ∧ (deliverSample p failed s).pending = s.pending ∧
    (deliverSample p failed s).freeDraws = s.freeDraws := by
  unfold deliverSample; (try dsimp only); (repeat' split) <;> simp

@[simp] theorem showHolder_frame (p : Sample) (ch : Channel) (s : State) :
    (showHolder p ch s).powered = s.powered ∧ (showHolder p ch s).pins = s.pins ∧
    (showHolder p ch s).clock = s.clock ∧ (showHolder p ch s).trunk = s.trunk ∧
    (showHolder p ch s).framer = s.framer ∧ (showHolder p ch s).tb = s.tb ∧
    (showHolder p ch s).station = s.station ∧ (showHolder p ch s).progress = s.progress ∧
    (showHolder p ch s).roster = s.roster ∧ (showHolder p ch s).rollCall = s.rollCall ∧
    (showHolder p ch s).map = s.map ∧ (showHolder p ch s).out = s.out ∧ (showHolder p ch s).mem = s.mem ∧
    (showHolder p ch s).trig = s.trig ∧ (showHolder p ch s).guard = s.guard ∧
    (showHolder p ch s).frame = s.frame ∧ (showHolder p ch s).service = s.service ∧
    (showHolder p ch s).setup = s.setup ∧ (showHolder p ch s).settings = s.settings ∧
    (showHolder p ch s).snapshots = s.snapshots ∧ (showHolder p ch s).pending = s.pending ∧
    (showHolder p ch s).freeDraws = s.freeDraws := by
  unfold showHolder; (try dsimp only); (repeat' split) <;> simp

@[simp] theorem heldReportTo_frame (n : Stream) (ch : Channel) (s : State) :
    (heldReportTo n ch s).powered = s.powered ∧ (heldReportTo n ch s).pins = s.pins ∧
    (heldReportTo n ch s).clock = s.clock ∧ (heldReportTo n ch s).trunk = s.trunk ∧
    (heldReportTo n ch s).framer = s.framer ∧ (heldReportTo n ch s).tb = s.tb ∧
    (heldReportTo n ch s).station = s.station ∧ (heldReportTo n ch s).progress = s.progress ∧
    (heldReportTo n ch s).roster = s.roster ∧ (heldReportTo n ch s).rollCall = s.rollCall ∧
    (heldReportTo n ch s).map = s.map ∧ (heldReportTo n ch s).out = s.out ∧ (heldReportTo n ch s).mem = s.mem ∧
    (heldReportTo n ch s).trig = s.trig ∧ (heldReportTo n ch s).guard = s.guard ∧
    (heldReportTo n ch s).frame = s.frame ∧ (heldReportTo n ch s).service = s.service ∧
    (heldReportTo n ch s).setup = s.setup ∧ (heldReportTo n ch s).settings = s.settings ∧
    (heldReportTo n ch s).snapshots = s.snapshots ∧ (heldReportTo n ch s).pending = s.pending ∧
    (heldReportTo n ch s).freeDraws = s.freeDraws := by
  unfold heldReportTo; (try dsimp only); (repeat' split) <;> simp

@[simp] theorem streamHeldReport_frame (n : Stream) (s : State) :
    (streamHeldReport n s).powered = s.powered ∧ (streamHeldReport n s).pins = s.pins ∧
    (streamHeldReport n s).clock = s.clock ∧ (streamHeldReport n s).trunk = s.trunk ∧
    (streamHeldReport n s).framer = s.framer ∧ (streamHeldReport n s).tb = s.tb ∧
    (streamHeldReport n s).station = s.station ∧ (streamHeldReport n s).progress = s.progress ∧
    (streamHeldReport n s).roster = s.roster ∧ (streamHeldReport n s).rollCall = s.rollCall ∧
    (streamHeldReport n s).map = s.map ∧ (streamHeldReport n s).out = s.out ∧
    (streamHeldReport n s).mem = s.mem ∧ (streamHeldReport n s).trig = s.trig ∧
    (streamHeldReport n s).guard = s.guard ∧ (streamHeldReport n s).frame = s.frame ∧
    (streamHeldReport n s).service = s.service ∧ (streamHeldReport n s).setup = s.setup ∧
    (streamHeldReport n s).settings = s.settings ∧ (streamHeldReport n s).snapshots = s.snapshots ∧
    (streamHeldReport n s).pending = s.pending ∧
    (streamHeldReport n s).freeDraws = s.freeDraws := by
  unfold streamHeldReport; (try dsimp only); (repeat' split) <;> simp

@[simp] theorem streamEnds_frame (st : InState) (ch : Channel) (s : State) :
    (streamEnds st ch s).powered = s.powered ∧ (streamEnds st ch s).pins = s.pins ∧
    (streamEnds st ch s).clock = s.clock ∧ (streamEnds st ch s).trunk = s.trunk ∧
    (streamEnds st ch s).framer = s.framer ∧ (streamEnds st ch s).tb = s.tb ∧
    (streamEnds st ch s).station = s.station ∧ (streamEnds st ch s).progress = s.progress ∧
    (streamEnds st ch s).roster = s.roster ∧ (streamEnds st ch s).rollCall = s.rollCall ∧
    (streamEnds st ch s).map = s.map ∧ (streamEnds st ch s).out = s.out ∧ (streamEnds st ch s).mem = s.mem ∧
    (streamEnds st ch s).trig = s.trig ∧ (streamEnds st ch s).guard = s.guard ∧
    (streamEnds st ch s).frame = s.frame ∧ (streamEnds st ch s).service = s.service ∧
    (streamEnds st ch s).setup = s.setup ∧ (streamEnds st ch s).settings = s.settings ∧
    (streamEnds st ch s).snapshots = s.snapshots ∧ (streamEnds st ch s).pending = s.pending := by
  unfold streamEnds; (try dsimp only); (repeat' split) <;> simp

@[simp] theorem loseStream_frame (ch : Channel) (s : State) :
    (loseStream ch s).powered = s.powered ∧ (loseStream ch s).pins = s.pins ∧
    (loseStream ch s).clock = s.clock ∧ (loseStream ch s).trunk = s.trunk ∧
    (loseStream ch s).framer = s.framer ∧ (loseStream ch s).tb = s.tb ∧ (loseStream ch s).station = s.station ∧
    (loseStream ch s).progress = s.progress ∧ (loseStream ch s).roster = s.roster ∧
    (loseStream ch s).rollCall = s.rollCall ∧ (loseStream ch s).map = s.map ∧ (loseStream ch s).out = s.out ∧
    (loseStream ch s).mem = s.mem ∧ (loseStream ch s).trig = s.trig ∧ (loseStream ch s).guard = s.guard ∧
    (loseStream ch s).frame = s.frame ∧ (loseStream ch s).service = s.service ∧
    (loseStream ch s).setup = s.setup ∧ (loseStream ch s).settings = s.settings ∧
    (loseStream ch s).snapshots = s.snapshots ∧ (loseStream ch s).pending = s.pending := by
  unfold loseStream; (try dsimp only); (repeat' split) <;> simp

@[simp] theorem freedReportTo_frame (n : Stream) (ch : Channel) (s : State) :
    (freedReportTo n ch s).powered = s.powered ∧ (freedReportTo n ch s).pins = s.pins ∧
    (freedReportTo n ch s).clock = s.clock ∧ (freedReportTo n ch s).trunk = s.trunk ∧
    (freedReportTo n ch s).framer = s.framer ∧ (freedReportTo n ch s).tb = s.tb ∧
    (freedReportTo n ch s).station = s.station ∧ (freedReportTo n ch s).progress = s.progress ∧
    (freedReportTo n ch s).roster = s.roster ∧ (freedReportTo n ch s).rollCall = s.rollCall ∧
    (freedReportTo n ch s).map = s.map ∧ (freedReportTo n ch s).out = s.out ∧
    (freedReportTo n ch s).mem = s.mem ∧ (freedReportTo n ch s).trig = s.trig ∧
    (freedReportTo n ch s).guard = s.guard ∧ (freedReportTo n ch s).frame = s.frame ∧
    (freedReportTo n ch s).service = s.service ∧ (freedReportTo n ch s).setup = s.setup ∧
    (freedReportTo n ch s).settings = s.settings ∧ (freedReportTo n ch s).snapshots = s.snapshots ∧
    (freedReportTo n ch s).pending = s.pending := by
  unfold freedReportTo; (try dsimp only); (repeat' split) <;> simp

@[simp] theorem streamFreedReport_frame (n : Stream) (s : State) :
    (streamFreedReport n s).powered = s.powered ∧ (streamFreedReport n s).pins = s.pins ∧
    (streamFreedReport n s).clock = s.clock ∧ (streamFreedReport n s).trunk = s.trunk ∧
    (streamFreedReport n s).framer = s.framer ∧ (streamFreedReport n s).tb = s.tb ∧
    (streamFreedReport n s).station = s.station ∧ (streamFreedReport n s).progress = s.progress ∧
    (streamFreedReport n s).roster = s.roster ∧ (streamFreedReport n s).rollCall = s.rollCall ∧
    (streamFreedReport n s).map = s.map ∧ (streamFreedReport n s).out = s.out ∧
    (streamFreedReport n s).mem = s.mem ∧ (streamFreedReport n s).trig = s.trig ∧
    (streamFreedReport n s).guard = s.guard ∧ (streamFreedReport n s).frame = s.frame ∧
    (streamFreedReport n s).service = s.service ∧ (streamFreedReport n s).setup = s.setup ∧
    (streamFreedReport n s).settings = s.settings ∧ (streamFreedReport n s).snapshots = s.snapshots ∧
    (streamFreedReport n s).pending = s.pending := by
  unfold streamFreedReport; (try dsimp only); (repeat' split) <;> simp

@[simp] theorem streamsFreed_frame (l : List Stream) (s : State) :
    (streamsFreed l s).powered = s.powered ∧ (streamsFreed l s).pins = s.pins ∧
    (streamsFreed l s).clock = s.clock ∧ (streamsFreed l s).trunk = s.trunk ∧
    (streamsFreed l s).framer = s.framer ∧ (streamsFreed l s).tb = s.tb ∧
    (streamsFreed l s).station = s.station ∧ (streamsFreed l s).progress = s.progress ∧
    (streamsFreed l s).roster = s.roster ∧ (streamsFreed l s).rollCall = s.rollCall ∧
    (streamsFreed l s).map = s.map ∧ (streamsFreed l s).out = s.out ∧ (streamsFreed l s).mem = s.mem ∧
    (streamsFreed l s).trig = s.trig ∧ (streamsFreed l s).guard = s.guard ∧ (streamsFreed l s).frame = s.frame ∧
    (streamsFreed l s).service = s.service ∧ (streamsFreed l s).setup = s.setup ∧
    (streamsFreed l s).settings = s.settings ∧ (streamsFreed l s).snapshots = s.snapshots ∧
    (streamsFreed l s).pending = s.pending := by
  induction l generalizing s with
  | nil => simp [streamsFreed]
  | cons x xs ih => simp [streamsFreed, ih]

@[simp] theorem joinedReportTo_frame (ch : Channel) (s : State) :
    (joinedReportTo ch s).powered = s.powered ∧ (joinedReportTo ch s).pins = s.pins ∧
    (joinedReportTo ch s).clock = s.clock ∧ (joinedReportTo ch s).trunk = s.trunk ∧
    (joinedReportTo ch s).framer = s.framer ∧ (joinedReportTo ch s).tb = s.tb ∧
    (joinedReportTo ch s).station = s.station ∧ (joinedReportTo ch s).progress = s.progress ∧
    (joinedReportTo ch s).roster = s.roster ∧ (joinedReportTo ch s).rollCall = s.rollCall ∧
    (joinedReportTo ch s).map = s.map ∧ (joinedReportTo ch s).out = s.out ∧ (joinedReportTo ch s).mem = s.mem ∧
    (joinedReportTo ch s).trig = s.trig ∧ (joinedReportTo ch s).guard = s.guard ∧
    (joinedReportTo ch s).frame = s.frame ∧ (joinedReportTo ch s).service = s.service ∧
    (joinedReportTo ch s).setup = s.setup ∧ (joinedReportTo ch s).settings = s.settings ∧
    (joinedReportTo ch s).snapshots = s.snapshots ∧ (joinedReportTo ch s).pending = s.pending ∧
    (joinedReportTo ch s).freeDraws = s.freeDraws := by
  unfold joinedReportTo; (try dsimp only); (repeat' split) <;> simp

@[simp] theorem reevaluate_frame (ch : Channel) (s : State) :
    (reevaluate ch s).powered = s.powered ∧ (reevaluate ch s).pins = s.pins ∧
    (reevaluate ch s).clock = s.clock ∧ (reevaluate ch s).trunk = s.trunk ∧
    (reevaluate ch s).framer = s.framer ∧ (reevaluate ch s).tb = s.tb ∧ (reevaluate ch s).station = s.station ∧
    (reevaluate ch s).progress = s.progress ∧ (reevaluate ch s).roster = s.roster ∧
    (reevaluate ch s).rollCall = s.rollCall ∧ (reevaluate ch s).map = s.map ∧ (reevaluate ch s).out = s.out ∧
    (reevaluate ch s).mem = s.mem ∧ (reevaluate ch s).trig = s.trig ∧ (reevaluate ch s).guard = s.guard ∧
    (reevaluate ch s).frame = s.frame ∧ (reevaluate ch s).service = s.service ∧
    (reevaluate ch s).setup = s.setup ∧ (reevaluate ch s).settings = s.settings ∧
    (reevaluate ch s).snapshots = s.snapshots ∧ (reevaluate ch s).pending = s.pending := by
  unfold reevaluate; (try dsimp only); (repeat' split) <;> simp

@[simp] theorem reevaluateInbound_frame (s : State) :
    (reevaluateInbound s).powered = s.powered ∧ (reevaluateInbound s).pins = s.pins ∧
    (reevaluateInbound s).clock = s.clock ∧ (reevaluateInbound s).trunk = s.trunk ∧
    (reevaluateInbound s).framer = s.framer ∧ (reevaluateInbound s).tb = s.tb ∧
    (reevaluateInbound s).station = s.station ∧ (reevaluateInbound s).progress = s.progress ∧
    (reevaluateInbound s).roster = s.roster ∧ (reevaluateInbound s).rollCall = s.rollCall ∧
    (reevaluateInbound s).map = s.map ∧ (reevaluateInbound s).out = s.out ∧ (reevaluateInbound s).mem = s.mem ∧
    (reevaluateInbound s).trig = s.trig ∧ (reevaluateInbound s).guard = s.guard ∧
    (reevaluateInbound s).frame = s.frame ∧ (reevaluateInbound s).service = s.service ∧
    (reevaluateInbound s).setup = s.setup ∧ (reevaluateInbound s).settings = s.settings ∧
    (reevaluateInbound s).snapshots = s.snapshots ∧ (reevaluateInbound s).pending = s.pending := by
  unfold reevaluateInbound; (try dsimp only); (repeat' split) <;> simp

@[simp] theorem inboundWaits_frame (s : State) :
    (inboundWaits s).powered = s.powered ∧ (inboundWaits s).pins = s.pins ∧ (inboundWaits s).clock = s.clock ∧
    (inboundWaits s).trunk = s.trunk ∧ (inboundWaits s).framer = s.framer ∧ (inboundWaits s).tb = s.tb ∧
    (inboundWaits s).station = s.station ∧ (inboundWaits s).progress = s.progress ∧
    (inboundWaits s).roster = s.roster ∧ (inboundWaits s).rollCall = s.rollCall ∧
    (inboundWaits s).map = s.map ∧ (inboundWaits s).out = s.out ∧ (inboundWaits s).mem = s.mem ∧
    (inboundWaits s).trig = s.trig ∧ (inboundWaits s).guard = s.guard ∧ (inboundWaits s).frame = s.frame ∧
    (inboundWaits s).service = s.service ∧ (inboundWaits s).setup = s.setup ∧
    (inboundWaits s).settings = s.settings ∧ (inboundWaits s).snapshots = s.snapshots ∧
    (inboundWaits s).flags = s.flags ∧ (inboundWaits s).pending = s.pending ∧
    (inboundWaits s).freeDraws = s.freeDraws := by
  unfold inboundWaits; (try dsimp only); (repeat' split) <;> simp

@[simp] theorem setOut_frame (ch : Channel) (c : OutChannel) (s : State) :
    (setOut ch c s).powered = s.powered ∧ (setOut ch c s).pins = s.pins ∧ (setOut ch c s).clock = s.clock ∧
    (setOut ch c s).trunk = s.trunk ∧ (setOut ch c s).framer = s.framer ∧ (setOut ch c s).tb = s.tb ∧
    (setOut ch c s).station = s.station ∧ (setOut ch c s).progress = s.progress ∧
    (setOut ch c s).roster = s.roster ∧ (setOut ch c s).rollCall = s.rollCall ∧ (setOut ch c s).map = s.map ∧
    (setOut ch c s).inb = s.inb ∧ (setOut ch c s).mem = s.mem ∧ (setOut ch c s).trig = s.trig ∧
    (setOut ch c s).guard = s.guard ∧ (setOut ch c s).frame = s.frame ∧ (setOut ch c s).service = s.service ∧
    (setOut ch c s).setup = s.setup ∧ (setOut ch c s).settings = s.settings ∧
    (setOut ch c s).snapshots = s.snapshots ∧ (setOut ch c s).flags = s.flags ∧
    (setOut ch c s).pending = s.pending ∧
    (setOut ch c s).freeDraws = s.freeDraws := by
  unfold setOut; (try dsimp only); (repeat' split) <;> simp

@[simp] theorem modifyOut_frame (ch : Channel) (f : OutChannel → OutChannel) (s : State) :
    (modifyOut ch f s).powered = s.powered ∧ (modifyOut ch f s).pins = s.pins ∧
    (modifyOut ch f s).clock = s.clock ∧ (modifyOut ch f s).trunk = s.trunk ∧
    (modifyOut ch f s).framer = s.framer ∧ (modifyOut ch f s).tb = s.tb ∧
    (modifyOut ch f s).station = s.station ∧ (modifyOut ch f s).progress = s.progress ∧
    (modifyOut ch f s).roster = s.roster ∧ (modifyOut ch f s).rollCall = s.rollCall ∧
    (modifyOut ch f s).map = s.map ∧ (modifyOut ch f s).inb = s.inb ∧ (modifyOut ch f s).mem = s.mem ∧
    (modifyOut ch f s).trig = s.trig ∧ (modifyOut ch f s).guard = s.guard ∧
    (modifyOut ch f s).frame = s.frame ∧ (modifyOut ch f s).service = s.service ∧
    (modifyOut ch f s).setup = s.setup ∧ (modifyOut ch f s).settings = s.settings ∧
    (modifyOut ch f s).snapshots = s.snapshots ∧ (modifyOut ch f s).flags = s.flags ∧
    (modifyOut ch f s).pending = s.pending ∧
    (modifyOut ch f s).freeDraws = s.freeDraws := by
  unfold modifyOut; (try dsimp only); (repeat' split) <;> simp

@[simp] theorem becomeClosed_frame (ch : Channel) (s : State) :
    (becomeClosed ch s).powered = s.powered ∧ (becomeClosed ch s).pins = s.pins ∧
    (becomeClosed ch s).clock = s.clock ∧ (becomeClosed ch s).trunk = s.trunk ∧
    (becomeClosed ch s).framer = s.framer ∧ (becomeClosed ch s).tb = s.tb ∧
    (becomeClosed ch s).station = s.station ∧ (becomeClosed ch s).progress = s.progress ∧
    (becomeClosed ch s).roster = s.roster ∧ (becomeClosed ch s).rollCall = s.rollCall ∧
    (becomeClosed ch s).map = s.map ∧ (becomeClosed ch s).inb = s.inb ∧ (becomeClosed ch s).mem = s.mem ∧
    (becomeClosed ch s).trig = s.trig ∧ (becomeClosed ch s).guard = s.guard ∧
    (becomeClosed ch s).frame = s.frame ∧ (becomeClosed ch s).service = s.service ∧
    (becomeClosed ch s).setup = s.setup ∧ (becomeClosed ch s).settings = s.settings ∧
    (becomeClosed ch s).snapshots = s.snapshots ∧ (becomeClosed ch s).pending = s.pending ∧
    (becomeClosed ch s).freeDraws = s.freeDraws := by
  unfold becomeClosed; (try dsimp only); (repeat' split) <;> simp

@[simp] theorem becomeLost_frame (ch : Channel) (s : State) :
    (becomeLost ch s).powered = s.powered ∧ (becomeLost ch s).pins = s.pins ∧
    (becomeLost ch s).clock = s.clock ∧ (becomeLost ch s).trunk = s.trunk ∧
    (becomeLost ch s).framer = s.framer ∧ (becomeLost ch s).tb = s.tb ∧ (becomeLost ch s).station = s.station ∧
    (becomeLost ch s).progress = s.progress ∧ (becomeLost ch s).roster = s.roster ∧
    (becomeLost ch s).rollCall = s.rollCall ∧ (becomeLost ch s).map = s.map ∧ (becomeLost ch s).inb = s.inb ∧
    (becomeLost ch s).mem = s.mem ∧ (becomeLost ch s).trig = s.trig ∧ (becomeLost ch s).guard = s.guard ∧
    (becomeLost ch s).frame = s.frame ∧ (becomeLost ch s).service = s.service ∧
    (becomeLost ch s).setup = s.setup ∧ (becomeLost ch s).settings = s.settings ∧
    (becomeLost ch s).snapshots = s.snapshots ∧ (becomeLost ch s).pending = s.pending ∧
    (becomeLost ch s).freeDraws = s.freeDraws := by
  unfold becomeLost; (try dsimp only); (repeat' split) <;> simp

@[simp] theorem settlePause_frame (s : State) :
    (settlePause s).powered = s.powered ∧ (settlePause s).pins = s.pins ∧ (settlePause s).clock = s.clock ∧
    (settlePause s).trunk = s.trunk ∧ (settlePause s).framer = s.framer ∧ (settlePause s).tb = s.tb ∧
    (settlePause s).station = s.station ∧ (settlePause s).progress = s.progress ∧
    (settlePause s).roster = s.roster ∧ (settlePause s).rollCall = s.rollCall ∧ (settlePause s).map = s.map ∧
    (settlePause s).inb = s.inb ∧ (settlePause s).mem = s.mem ∧ (settlePause s).trig = s.trig ∧
    (settlePause s).guard = s.guard ∧ (settlePause s).frame = s.frame ∧ (settlePause s).service = s.service ∧
    (settlePause s).setup = s.setup ∧ (settlePause s).settings = s.settings ∧
    (settlePause s).snapshots = s.snapshots ∧ (settlePause s).flags = s.flags ∧
    (settlePause s).pending = s.pending ∧
    (settlePause s).freeDraws = s.freeDraws := by
  unfold settlePause; (try dsimp only); (repeat' split) <;> simp

@[simp] theorem startAttempt_frame (ch : Channel) (s : State) :
    (startAttempt ch s).powered = s.powered ∧ (startAttempt ch s).pins = s.pins ∧
    (startAttempt ch s).clock = s.clock ∧ (startAttempt ch s).framer = s.framer ∧
    (startAttempt ch s).tb = s.tb ∧ (startAttempt ch s).station = s.station ∧
    (startAttempt ch s).progress = s.progress ∧ (startAttempt ch s).roster = s.roster ∧
    (startAttempt ch s).rollCall = s.rollCall ∧ (startAttempt ch s).map = s.map ∧
    (startAttempt ch s).inb = s.inb ∧ (startAttempt ch s).mem = s.mem ∧ (startAttempt ch s).trig = s.trig ∧
    (startAttempt ch s).guard = s.guard ∧ (startAttempt ch s).frame = s.frame ∧
    (startAttempt ch s).service = s.service ∧ (startAttempt ch s).setup = s.setup ∧
    (startAttempt ch s).settings = s.settings ∧ (startAttempt ch s).snapshots = s.snapshots ∧
    (startAttempt ch s).flags = s.flags ∧ (startAttempt ch s).pending = s.pending ∧
    (startAttempt ch s).freeDraws = s.freeDraws ∧
    (startAttempt ch s).trunk.switch = s.trunk.switch ∧ (startAttempt ch s).trunk.sending = s.trunk.sending := by
  unfold startAttempt; (try dsimp only); (repeat' split) <;> simp

@[simp] theorem endClaiming_frame (ch : Channel) (st : OutState) (s : State) :
    (endClaiming ch st s).powered = s.powered ∧ (endClaiming ch st s).pins = s.pins ∧
    (endClaiming ch st s).clock = s.clock ∧ (endClaiming ch st s).trunk = s.trunk ∧
    (endClaiming ch st s).framer = s.framer ∧ (endClaiming ch st s).tb = s.tb ∧
    (endClaiming ch st s).station = s.station ∧ (endClaiming ch st s).progress = s.progress ∧
    (endClaiming ch st s).roster = s.roster ∧ (endClaiming ch st s).rollCall = s.rollCall ∧
    (endClaiming ch st s).map = s.map ∧ (endClaiming ch st s).inb = s.inb ∧ (endClaiming ch st s).mem = s.mem ∧
    (endClaiming ch st s).trig = s.trig ∧ (endClaiming ch st s).guard = s.guard ∧
    (endClaiming ch st s).frame = s.frame ∧ (endClaiming ch st s).service = s.service ∧
    (endClaiming ch st s).setup = s.setup ∧ (endClaiming ch st s).settings = s.settings ∧
    (endClaiming ch st s).snapshots = s.snapshots ∧ (endClaiming ch st s).pending = s.pending ∧
    (endClaiming ch st s).freeDraws = s.freeDraws := by
  unfold endClaiming; (try dsimp only); (repeat' split) <;> simp

@[simp] theorem becomeFailed_frame (ch : Channel) (s : State) :
    (becomeFailed ch s).powered = s.powered ∧ (becomeFailed ch s).pins = s.pins ∧
    (becomeFailed ch s).clock = s.clock ∧ (becomeFailed ch s).trunk = s.trunk ∧
    (becomeFailed ch s).framer = s.framer ∧ (becomeFailed ch s).tb = s.tb ∧
    (becomeFailed ch s).station = s.station ∧ (becomeFailed ch s).progress = s.progress ∧
    (becomeFailed ch s).roster = s.roster ∧ (becomeFailed ch s).rollCall = s.rollCall ∧
    (becomeFailed ch s).map = s.map ∧ (becomeFailed ch s).inb = s.inb ∧ (becomeFailed ch s).mem = s.mem ∧
    (becomeFailed ch s).trig = s.trig ∧ (becomeFailed ch s).guard = s.guard ∧
    (becomeFailed ch s).frame = s.frame ∧ (becomeFailed ch s).service = s.service ∧
    (becomeFailed ch s).setup = s.setup ∧ (becomeFailed ch s).settings = s.settings ∧
    (becomeFailed ch s).snapshots = s.snapshots ∧ (becomeFailed ch s).pending = s.pending ∧
    (becomeFailed ch s).freeDraws = s.freeDraws := by
  unfold becomeFailed; (try dsimp only); (repeat' split) <;> simp

@[simp] theorem completeAttempt_frame (ch : Channel) (s : State) :
    (completeAttempt ch s).powered = s.powered ∧ (completeAttempt ch s).pins = s.pins ∧
    (completeAttempt ch s).clock = s.clock ∧ (completeAttempt ch s).framer = s.framer ∧
    (completeAttempt ch s).tb = s.tb ∧ (completeAttempt ch s).station = s.station ∧
    (completeAttempt ch s).progress = s.progress ∧ (completeAttempt ch s).roster = s.roster ∧
    (completeAttempt ch s).rollCall = s.rollCall ∧ (completeAttempt ch s).map = s.map ∧
    (completeAttempt ch s).inb = s.inb ∧ (completeAttempt ch s).mem = s.mem ∧
    (completeAttempt ch s).trig = s.trig ∧ (completeAttempt ch s).guard = s.guard ∧
    (completeAttempt ch s).frame = s.frame ∧ (completeAttempt ch s).service = s.service ∧
    (completeAttempt ch s).setup = s.setup ∧ (completeAttempt ch s).settings = s.settings ∧
    (completeAttempt ch s).snapshots = s.snapshots ∧ (completeAttempt ch s).pending = s.pending ∧
    (completeAttempt ch s).freeDraws = s.freeDraws ∧
    (completeAttempt ch s).trunk.switch = s.trunk.switch ∧
    (completeAttempt ch s).trunk.sending = s.trunk.sending := by
  unfold completeAttempt; (try dsimp only); (repeat' split) <;> simp

@[simp] theorem completeEmptyAttempt_frame (ch : Channel) (s : State) :
    (completeEmptyAttempt ch s).powered = s.powered ∧ (completeEmptyAttempt ch s).pins = s.pins ∧
    (completeEmptyAttempt ch s).clock = s.clock ∧ (completeEmptyAttempt ch s).framer = s.framer ∧
    (completeEmptyAttempt ch s).tb = s.tb ∧ (completeEmptyAttempt ch s).station = s.station ∧
    (completeEmptyAttempt ch s).progress = s.progress ∧ (completeEmptyAttempt ch s).roster = s.roster ∧
    (completeEmptyAttempt ch s).rollCall = s.rollCall ∧ (completeEmptyAttempt ch s).map = s.map ∧
    (completeEmptyAttempt ch s).inb = s.inb ∧ (completeEmptyAttempt ch s).mem = s.mem ∧
    (completeEmptyAttempt ch s).trig = s.trig ∧ (completeEmptyAttempt ch s).guard = s.guard ∧
    (completeEmptyAttempt ch s).frame = s.frame ∧ (completeEmptyAttempt ch s).service = s.service ∧
    (completeEmptyAttempt ch s).setup = s.setup ∧ (completeEmptyAttempt ch s).settings = s.settings ∧
    (completeEmptyAttempt ch s).snapshots = s.snapshots ∧ (completeEmptyAttempt ch s).pending = s.pending ∧
    (completeEmptyAttempt ch s).freeDraws = s.freeDraws ∧
    (completeEmptyAttempt ch s).trunk.switch = s.trunk.switch ∧
    (completeEmptyAttempt ch s).trunk.sending = s.trunk.sending := by
  unfold completeEmptyAttempt; (try dsimp only); (repeat' split) <;> simp

@[simp] theorem completeEmptyAttempts_frame (s : State) :
    (completeEmptyAttempts s).powered = s.powered ∧ (completeEmptyAttempts s).pins = s.pins ∧
    (completeEmptyAttempts s).clock = s.clock ∧ (completeEmptyAttempts s).framer = s.framer ∧
    (completeEmptyAttempts s).tb = s.tb ∧ (completeEmptyAttempts s).station = s.station ∧
    (completeEmptyAttempts s).progress = s.progress ∧ (completeEmptyAttempts s).roster = s.roster ∧
    (completeEmptyAttempts s).rollCall = s.rollCall ∧ (completeEmptyAttempts s).map = s.map ∧
    (completeEmptyAttempts s).inb = s.inb ∧ (completeEmptyAttempts s).mem = s.mem ∧
    (completeEmptyAttempts s).trig = s.trig ∧ (completeEmptyAttempts s).guard = s.guard ∧
    (completeEmptyAttempts s).frame = s.frame ∧ (completeEmptyAttempts s).service = s.service ∧
    (completeEmptyAttempts s).setup = s.setup ∧ (completeEmptyAttempts s).settings = s.settings ∧
    (completeEmptyAttempts s).snapshots = s.snapshots ∧ (completeEmptyAttempts s).pending = s.pending ∧
    (completeEmptyAttempts s).freeDraws = s.freeDraws ∧
    (completeEmptyAttempts s).trunk.switch = s.trunk.switch ∧
    (completeEmptyAttempts s).trunk.sending = s.trunk.sending := by
  unfold completeEmptyAttempts; (try dsimp only); (repeat' split) <;> simp

@[simp] theorem withdrawClaims_frame (ch : Channel) (s : State) :
    (withdrawClaims ch s).powered = s.powered ∧ (withdrawClaims ch s).pins = s.pins ∧
    (withdrawClaims ch s).clock = s.clock ∧ (withdrawClaims ch s).framer = s.framer ∧
    (withdrawClaims ch s).tb = s.tb ∧ (withdrawClaims ch s).station = s.station ∧
    (withdrawClaims ch s).progress = s.progress ∧ (withdrawClaims ch s).roster = s.roster ∧
    (withdrawClaims ch s).rollCall = s.rollCall ∧ (withdrawClaims ch s).map = s.map ∧
    (withdrawClaims ch s).inb = s.inb ∧ (withdrawClaims ch s).mem = s.mem ∧
    (withdrawClaims ch s).trig = s.trig ∧ (withdrawClaims ch s).guard = s.guard ∧
    (withdrawClaims ch s).frame = s.frame ∧ (withdrawClaims ch s).service = s.service ∧
    (withdrawClaims ch s).setup = s.setup ∧ (withdrawClaims ch s).settings = s.settings ∧
    (withdrawClaims ch s).snapshots = s.snapshots ∧ (withdrawClaims ch s).flags = s.flags ∧
    (withdrawClaims ch s).pending = s.pending ∧
    (withdrawClaims ch s).freeDraws = s.freeDraws ∧ (withdrawClaims ch s).trunk.switch = s.trunk.switch ∧
    (withdrawClaims ch s).trunk.sending = s.trunk.sending := by
  unfold withdrawClaims; (try dsimp only); (repeat' split) <;> simp

@[simp] theorem releaseSlots_frame (ch : Channel) (slots : List Slot) (s : State) :
    (releaseSlots ch slots s).powered = s.powered ∧ (releaseSlots ch slots s).pins = s.pins ∧
    (releaseSlots ch slots s).clock = s.clock ∧ (releaseSlots ch slots s).framer = s.framer ∧
    (releaseSlots ch slots s).tb = s.tb ∧ (releaseSlots ch slots s).station = s.station ∧
    (releaseSlots ch slots s).progress = s.progress ∧ (releaseSlots ch slots s).roster = s.roster ∧
    (releaseSlots ch slots s).rollCall = s.rollCall ∧ (releaseSlots ch slots s).map = s.map ∧
    (releaseSlots ch slots s).inb = s.inb ∧ (releaseSlots ch slots s).mem = s.mem ∧
    (releaseSlots ch slots s).trig = s.trig ∧ (releaseSlots ch slots s).guard = s.guard ∧
    (releaseSlots ch slots s).frame = s.frame ∧ (releaseSlots ch slots s).service = s.service ∧
    (releaseSlots ch slots s).setup = s.setup ∧ (releaseSlots ch slots s).settings = s.settings ∧
    (releaseSlots ch slots s).snapshots = s.snapshots ∧ (releaseSlots ch slots s).flags = s.flags ∧
    (releaseSlots ch slots s).pending = s.pending ∧
    (releaseSlots ch slots s).freeDraws = s.freeDraws ∧ (releaseSlots ch slots s).trunk.switch = s.trunk.switch ∧
    (releaseSlots ch slots s).trunk.sending = s.trunk.sending := by
  unfold releaseSlots; (try dsimp only); (repeat' split) <;> simp

@[simp] theorem closingDone_frame (ch : Channel) (s : State) :
    (closingDone ch s).powered = s.powered ∧ (closingDone ch s).pins = s.pins ∧
    (closingDone ch s).clock = s.clock ∧ (closingDone ch s).trunk = s.trunk ∧
    (closingDone ch s).framer = s.framer ∧ (closingDone ch s).tb = s.tb ∧
    (closingDone ch s).station = s.station ∧ (closingDone ch s).progress = s.progress ∧
    (closingDone ch s).roster = s.roster ∧ (closingDone ch s).rollCall = s.rollCall ∧
    (closingDone ch s).map = s.map ∧ (closingDone ch s).inb = s.inb ∧ (closingDone ch s).mem = s.mem ∧
    (closingDone ch s).trig = s.trig ∧ (closingDone ch s).guard = s.guard ∧
    (closingDone ch s).frame = s.frame ∧ (closingDone ch s).service = s.service ∧
    (closingDone ch s).setup = s.setup ∧ (closingDone ch s).settings = s.settings ∧
    (closingDone ch s).snapshots = s.snapshots ∧ (closingDone ch s).pending = s.pending ∧
    (closingDone ch s).freeDraws = s.freeDraws := by
  unfold closingDone; (try dsimp only); (repeat' split) <;> simp

@[simp] theorem beginClosing_frame (ch : Channel) (goal : ClosingTo) (s : State) :
    (beginClosing ch goal s).powered = s.powered ∧ (beginClosing ch goal s).pins = s.pins ∧
    (beginClosing ch goal s).clock = s.clock ∧ (beginClosing ch goal s).framer = s.framer ∧
    (beginClosing ch goal s).tb = s.tb ∧ (beginClosing ch goal s).station = s.station ∧
    (beginClosing ch goal s).progress = s.progress ∧ (beginClosing ch goal s).roster = s.roster ∧
    (beginClosing ch goal s).rollCall = s.rollCall ∧ (beginClosing ch goal s).map = s.map ∧
    (beginClosing ch goal s).inb = s.inb ∧ (beginClosing ch goal s).mem = s.mem ∧
    (beginClosing ch goal s).trig = s.trig ∧ (beginClosing ch goal s).guard = s.guard ∧
    (beginClosing ch goal s).frame = s.frame ∧ (beginClosing ch goal s).service = s.service ∧
    (beginClosing ch goal s).setup = s.setup ∧ (beginClosing ch goal s).settings = s.settings ∧
    (beginClosing ch goal s).snapshots = s.snapshots ∧ (beginClosing ch goal s).pending = s.pending ∧
    (beginClosing ch goal s).freeDraws = s.freeDraws ∧
    (beginClosing ch goal s).trunk.switch = s.trunk.switch ∧
    (beginClosing ch goal s).trunk.sending = s.trunk.sending := by
  unfold beginClosing; (try dsimp only); (repeat' split) <;> simp

@[simp] theorem giveUpClaims_frame (ch : Channel) (s : State) :
    (giveUpClaims ch s).powered = s.powered ∧ (giveUpClaims ch s).pins = s.pins ∧
    (giveUpClaims ch s).clock = s.clock ∧ (giveUpClaims ch s).framer = s.framer ∧
    (giveUpClaims ch s).tb = s.tb ∧ (giveUpClaims ch s).station = s.station ∧
    (giveUpClaims ch s).progress = s.progress ∧ (giveUpClaims ch s).roster = s.roster ∧
    (giveUpClaims ch s).rollCall = s.rollCall ∧ (giveUpClaims ch s).map = s.map ∧
    (giveUpClaims ch s).inb = s.inb ∧ (giveUpClaims ch s).mem = s.mem ∧ (giveUpClaims ch s).trig = s.trig ∧
    (giveUpClaims ch s).guard = s.guard ∧ (giveUpClaims ch s).frame = s.frame ∧
    (giveUpClaims ch s).service = s.service ∧ (giveUpClaims ch s).setup = s.setup ∧
    (giveUpClaims ch s).settings = s.settings ∧ (giveUpClaims ch s).snapshots = s.snapshots ∧
    (giveUpClaims ch s).pending = s.pending ∧ (giveUpClaims ch s).freeDraws = s.freeDraws ∧
    (giveUpClaims ch s).trunk.switch = s.trunk.switch ∧ (giveUpClaims ch s).trunk.sending = s.trunk.sending := by
  unfold giveUpClaims; (try dsimp only); (repeat' split) <;> simp

@[simp] theorem carryOutClose_frame (ch : Channel) (s : State) :
    (carryOutClose ch s).powered = s.powered ∧ (carryOutClose ch s).pins = s.pins ∧
    (carryOutClose ch s).clock = s.clock ∧ (carryOutClose ch s).framer = s.framer ∧
    (carryOutClose ch s).tb = s.tb ∧ (carryOutClose ch s).station = s.station ∧
    (carryOutClose ch s).progress = s.progress ∧ (carryOutClose ch s).roster = s.roster ∧
    (carryOutClose ch s).rollCall = s.rollCall ∧ (carryOutClose ch s).map = s.map ∧
    (carryOutClose ch s).inb = s.inb ∧ (carryOutClose ch s).mem = s.mem ∧ (carryOutClose ch s).trig = s.trig ∧
    (carryOutClose ch s).guard = s.guard ∧ (carryOutClose ch s).frame = s.frame ∧
    (carryOutClose ch s).service = s.service ∧ (carryOutClose ch s).setup = s.setup ∧
    (carryOutClose ch s).settings = s.settings ∧ (carryOutClose ch s).snapshots = s.snapshots ∧
    (carryOutClose ch s).pending = s.pending ∧
    (carryOutClose ch s).freeDraws = s.freeDraws ∧ (carryOutClose ch s).trunk.switch = s.trunk.switch ∧
    (carryOutClose ch s).trunk.sending = s.trunk.sending := by
  unfold carryOutClose; (try dsimp only); (repeat' split) <;> simp

@[simp] theorem carryOutPending_frame (ch : Channel) (s : State) :
    (carryOutPending ch s).powered = s.powered ∧ (carryOutPending ch s).pins = s.pins ∧
    (carryOutPending ch s).clock = s.clock ∧ (carryOutPending ch s).framer = s.framer ∧
    (carryOutPending ch s).tb = s.tb ∧ (carryOutPending ch s).station = s.station ∧
    (carryOutPending ch s).progress = s.progress ∧ (carryOutPending ch s).roster = s.roster ∧
    (carryOutPending ch s).rollCall = s.rollCall ∧ (carryOutPending ch s).map = s.map ∧
    (carryOutPending ch s).inb = s.inb ∧ (carryOutPending ch s).mem = s.mem ∧
    (carryOutPending ch s).trig = s.trig ∧ (carryOutPending ch s).guard = s.guard ∧
    (carryOutPending ch s).frame = s.frame ∧ (carryOutPending ch s).service = s.service ∧
    (carryOutPending ch s).setup = s.setup ∧ (carryOutPending ch s).settings = s.settings ∧
    (carryOutPending ch s).snapshots = s.snapshots ∧ (carryOutPending ch s).pending = s.pending ∧
    (carryOutPending ch s).freeDraws = s.freeDraws ∧
    (carryOutPending ch s).trunk.switch = s.trunk.switch ∧
    (carryOutPending ch s).trunk.sending = s.trunk.sending := by
  unfold carryOutPending; (try dsimp only); (repeat' split) <;> simp

@[simp] theorem carryOutCloses_frame (s : State) :
    (carryOutCloses s).powered = s.powered ∧ (carryOutCloses s).pins = s.pins ∧
    (carryOutCloses s).clock = s.clock ∧ (carryOutCloses s).framer = s.framer ∧ (carryOutCloses s).tb = s.tb ∧
    (carryOutCloses s).station = s.station ∧ (carryOutCloses s).progress = s.progress ∧
    (carryOutCloses s).roster = s.roster ∧ (carryOutCloses s).rollCall = s.rollCall ∧
    (carryOutCloses s).map = s.map ∧ (carryOutCloses s).inb = s.inb ∧ (carryOutCloses s).mem = s.mem ∧
    (carryOutCloses s).trig = s.trig ∧ (carryOutCloses s).guard = s.guard ∧
    (carryOutCloses s).frame = s.frame ∧ (carryOutCloses s).service = s.service ∧
    (carryOutCloses s).setup = s.setup ∧ (carryOutCloses s).settings = s.settings ∧
    (carryOutCloses s).snapshots = s.snapshots ∧ (carryOutCloses s).pending = s.pending ∧
    (carryOutCloses s).freeDraws = s.freeDraws ∧
    (carryOutCloses s).trunk.switch = s.trunk.switch ∧ (carryOutCloses s).trunk.sending = s.trunk.sending := by
  unfold carryOutCloses; (try dsimp only); (repeat' split) <;> simp

@[simp] theorem leaveCloseChannel_frame (outcome : LeaveOutcome) (ch : Channel) (s : State) :
    (leaveCloseChannel outcome ch s).powered = s.powered ∧ (leaveCloseChannel outcome ch s).pins = s.pins ∧
    (leaveCloseChannel outcome ch s).clock = s.clock ∧ (leaveCloseChannel outcome ch s).framer = s.framer ∧
    (leaveCloseChannel outcome ch s).tb = s.tb ∧ (leaveCloseChannel outcome ch s).station = s.station ∧
    (leaveCloseChannel outcome ch s).progress = s.progress ∧
    (leaveCloseChannel outcome ch s).roster = s.roster ∧
    (leaveCloseChannel outcome ch s).rollCall = s.rollCall ∧ (leaveCloseChannel outcome ch s).map = s.map ∧
    (leaveCloseChannel outcome ch s).inb = s.inb ∧ (leaveCloseChannel outcome ch s).mem = s.mem ∧
    (leaveCloseChannel outcome ch s).trig = s.trig ∧ (leaveCloseChannel outcome ch s).guard = s.guard ∧
    (leaveCloseChannel outcome ch s).frame = s.frame ∧ (leaveCloseChannel outcome ch s).service = s.service ∧
    (leaveCloseChannel outcome ch s).setup = s.setup ∧ (leaveCloseChannel outcome ch s).settings = s.settings ∧
    (leaveCloseChannel outcome ch s).snapshots = s.snapshots ∧
    (leaveCloseChannel outcome ch s).pending = s.pending ∧
    (leaveCloseChannel outcome ch s).freeDraws = s.freeDraws ∧
    (leaveCloseChannel outcome ch s).trunk.switch = s.trunk.switch ∧
    (leaveCloseChannel outcome ch s).trunk.sending = s.trunk.sending := by
  unfold leaveCloseChannel; (try dsimp only); (repeat' split) <;> simp

@[simp] theorem leaveClosing_frame (s : State) :
    (leaveClosing s).powered = s.powered ∧ (leaveClosing s).pins = s.pins ∧ (leaveClosing s).clock = s.clock ∧
    (leaveClosing s).framer = s.framer ∧ (leaveClosing s).tb = s.tb ∧ (leaveClosing s).station = s.station ∧
    (leaveClosing s).roster = s.roster ∧ (leaveClosing s).rollCall = s.rollCall ∧
    (leaveClosing s).map = s.map ∧ (leaveClosing s).inb = s.inb ∧ (leaveClosing s).mem = s.mem ∧
    (leaveClosing s).trig = s.trig ∧ (leaveClosing s).guard = s.guard ∧ (leaveClosing s).frame = s.frame ∧
    (leaveClosing s).service = s.service ∧ (leaveClosing s).setup = s.setup ∧
    (leaveClosing s).settings = s.settings ∧ (leaveClosing s).snapshots = s.snapshots ∧
    (leaveClosing s).pending = s.pending ∧
    (leaveClosing s).freeDraws = s.freeDraws ∧ (leaveClosing s).trunk.switch = s.trunk.switch ∧
    (leaveClosing s).trunk.sending = s.trunk.sending ∧
    (leaveClosing s).progress.leavingDue = s.progress.leavingDue ∧
    (leaveClosing s).progress.ownLeaveTaken = s.progress.ownLeaveTaken := by
  unfold leaveClosing; (try dsimp only); (repeat' split) <;> simp

@[simp] theorem ownReleaseTaken_frame (ch : Channel) (r : Release) (s : State) :
    (ownReleaseTaken ch r s).powered = s.powered ∧ (ownReleaseTaken ch r s).pins = s.pins ∧
    (ownReleaseTaken ch r s).clock = s.clock ∧ (ownReleaseTaken ch r s).trunk = s.trunk ∧
    (ownReleaseTaken ch r s).framer = s.framer ∧ (ownReleaseTaken ch r s).tb = s.tb ∧
    (ownReleaseTaken ch r s).station = s.station ∧ (ownReleaseTaken ch r s).progress = s.progress ∧
    (ownReleaseTaken ch r s).roster = s.roster ∧ (ownReleaseTaken ch r s).rollCall = s.rollCall ∧
    (ownReleaseTaken ch r s).map = s.map ∧ (ownReleaseTaken ch r s).inb = s.inb ∧
    (ownReleaseTaken ch r s).mem = s.mem ∧ (ownReleaseTaken ch r s).trig = s.trig ∧
    (ownReleaseTaken ch r s).guard = s.guard ∧ (ownReleaseTaken ch r s).frame = s.frame ∧
    (ownReleaseTaken ch r s).service = s.service ∧ (ownReleaseTaken ch r s).setup = s.setup ∧
    (ownReleaseTaken ch r s).settings = s.settings ∧ (ownReleaseTaken ch r s).snapshots = s.snapshots ∧
    (ownReleaseTaken ch r s).pending = s.pending ∧
    (ownReleaseTaken ch r s).freeDraws = s.freeDraws := by
  unfold ownReleaseTaken; (try dsimp only); (repeat' split) <;> simp

@[simp] theorem enterConflict_frame (ch : Channel) (s : State) :
    (enterConflict ch s).powered = s.powered ∧ (enterConflict ch s).pins = s.pins ∧
    (enterConflict ch s).clock = s.clock ∧ (enterConflict ch s).framer = s.framer ∧
    (enterConflict ch s).tb = s.tb ∧ (enterConflict ch s).station = s.station ∧
    (enterConflict ch s).progress = s.progress ∧ (enterConflict ch s).roster = s.roster ∧
    (enterConflict ch s).rollCall = s.rollCall ∧ (enterConflict ch s).map = s.map ∧
    (enterConflict ch s).inb = s.inb ∧ (enterConflict ch s).mem = s.mem ∧ (enterConflict ch s).trig = s.trig ∧
    (enterConflict ch s).guard = s.guard ∧ (enterConflict ch s).frame = s.frame ∧
    (enterConflict ch s).service = s.service ∧ (enterConflict ch s).setup = s.setup ∧
    (enterConflict ch s).settings = s.settings ∧ (enterConflict ch s).snapshots = s.snapshots ∧
    (enterConflict ch s).pending = s.pending ∧
    (enterConflict ch s).freeDraws = s.freeDraws ∧ (enterConflict ch s).trunk.switch = s.trunk.switch ∧
    (enterConflict ch s).trunk.sending = s.trunk.sending := by
  unfold enterConflict; (try dsimp only); (repeat' split) <;> simp

@[simp] theorem claimOutcome_frame (ch : Channel) (claim : Claim) (r : ClaimResult) (s : State) :
    (claimOutcome ch claim r s).powered = s.powered ∧ (claimOutcome ch claim r s).pins = s.pins ∧
    (claimOutcome ch claim r s).clock = s.clock ∧ (claimOutcome ch claim r s).framer = s.framer ∧
    (claimOutcome ch claim r s).tb = s.tb ∧ (claimOutcome ch claim r s).station = s.station ∧
    (claimOutcome ch claim r s).progress = s.progress ∧ (claimOutcome ch claim r s).roster = s.roster ∧
    (claimOutcome ch claim r s).rollCall = s.rollCall ∧ (claimOutcome ch claim r s).map = s.map ∧
    (claimOutcome ch claim r s).inb = s.inb ∧ (claimOutcome ch claim r s).mem = s.mem ∧
    (claimOutcome ch claim r s).trig = s.trig ∧ (claimOutcome ch claim r s).guard = s.guard ∧
    (claimOutcome ch claim r s).frame = s.frame ∧ (claimOutcome ch claim r s).service = s.service ∧
    (claimOutcome ch claim r s).setup = s.setup ∧ (claimOutcome ch claim r s).settings = s.settings ∧
    (claimOutcome ch claim r s).snapshots = s.snapshots ∧ (claimOutcome ch claim r s).pending = s.pending ∧
    (claimOutcome ch claim r s).freeDraws = s.freeDraws ∧
    (claimOutcome ch claim r s).trunk.switch = s.trunk.switch ∧
    (claimOutcome ch claim r s).trunk.sending = s.trunk.sending := by
  unfold claimOutcome; (try dsimp only); (repeat' split) <;> simp

@[simp] theorem openChannel_frame (ch : Channel) (s : State) :
    (openChannel ch s).powered = s.powered ∧ (openChannel ch s).pins = s.pins ∧
    (openChannel ch s).clock = s.clock ∧ (openChannel ch s).framer = s.framer ∧ (openChannel ch s).tb = s.tb ∧
    (openChannel ch s).station = s.station ∧ (openChannel ch s).progress = s.progress ∧
    (openChannel ch s).roster = s.roster ∧ (openChannel ch s).rollCall = s.rollCall ∧
    (openChannel ch s).map = s.map ∧ (openChannel ch s).inb = s.inb ∧ (openChannel ch s).mem = s.mem ∧
    (openChannel ch s).trig = s.trig ∧ (openChannel ch s).guard = s.guard ∧
    (openChannel ch s).frame = s.frame ∧ (openChannel ch s).service = s.service ∧
    (openChannel ch s).setup = s.setup ∧ (openChannel ch s).settings = s.settings ∧
    (openChannel ch s).snapshots = s.snapshots ∧ (openChannel ch s).flags = s.flags ∧
    (openChannel ch s).pending = s.pending ∧
    (openChannel ch s).freeDraws = s.freeDraws ∧ (openChannel ch s).trunk.switch = s.trunk.switch ∧
    (openChannel ch s).trunk.sending = s.trunk.sending := by
  unfold openChannel; (try dsimp only); (repeat' split) <;> simp

@[simp] theorem reclaim_frame (ch : Channel) (s : State) :
    (reclaim ch s).powered = s.powered ∧ (reclaim ch s).pins = s.pins ∧ (reclaim ch s).clock = s.clock ∧
    (reclaim ch s).framer = s.framer ∧ (reclaim ch s).tb = s.tb ∧ (reclaim ch s).station = s.station ∧
    (reclaim ch s).progress = s.progress ∧ (reclaim ch s).roster = s.roster ∧
    (reclaim ch s).rollCall = s.rollCall ∧ (reclaim ch s).map = s.map ∧ (reclaim ch s).inb = s.inb ∧
    (reclaim ch s).mem = s.mem ∧ (reclaim ch s).trig = s.trig ∧ (reclaim ch s).guard = s.guard ∧
    (reclaim ch s).frame = s.frame ∧ (reclaim ch s).service = s.service ∧ (reclaim ch s).setup = s.setup ∧
    (reclaim ch s).settings = s.settings ∧ (reclaim ch s).snapshots = s.snapshots ∧
    (reclaim ch s).flags = s.flags ∧ (reclaim ch s).pending = s.pending ∧
    (reclaim ch s).freeDraws = s.freeDraws ∧
    (reclaim ch s).trunk.switch = s.trunk.switch ∧ (reclaim ch s).trunk.sending = s.trunk.sending := by
  unfold reclaim; (try dsimp only); (repeat' split) <;> simp

@[simp] theorem joinedOut_frame (ch : Channel) (s : State) :
    (joinedOut ch s).powered = s.powered ∧ (joinedOut ch s).pins = s.pins ∧ (joinedOut ch s).clock = s.clock ∧
    (joinedOut ch s).framer = s.framer ∧ (joinedOut ch s).tb = s.tb ∧ (joinedOut ch s).station = s.station ∧
    (joinedOut ch s).progress = s.progress ∧ (joinedOut ch s).roster = s.roster ∧
    (joinedOut ch s).rollCall = s.rollCall ∧ (joinedOut ch s).map = s.map ∧ (joinedOut ch s).inb = s.inb ∧
    (joinedOut ch s).mem = s.mem ∧ (joinedOut ch s).trig = s.trig ∧ (joinedOut ch s).guard = s.guard ∧
    (joinedOut ch s).frame = s.frame ∧ (joinedOut ch s).service = s.service ∧
    (joinedOut ch s).setup = s.setup ∧ (joinedOut ch s).settings = s.settings ∧
    (joinedOut ch s).snapshots = s.snapshots ∧ (joinedOut ch s).pending = s.pending ∧
    (joinedOut ch s).freeDraws = s.freeDraws ∧
    (joinedOut ch s).trunk.switch = s.trunk.switch ∧ (joinedOut ch s).trunk.sending = s.trunk.sending := by
  unfold joinedOut; (try dsimp only); (repeat' split) <;> simp

@[simp] theorem slotLost_frame (ch : Channel) (l : Slot) (s : State) :
    (slotLost ch l s).powered = s.powered ∧ (slotLost ch l s).pins = s.pins ∧
    (slotLost ch l s).clock = s.clock ∧ (slotLost ch l s).framer = s.framer ∧ (slotLost ch l s).tb = s.tb ∧
    (slotLost ch l s).station = s.station ∧ (slotLost ch l s).progress = s.progress ∧
    (slotLost ch l s).roster = s.roster ∧ (slotLost ch l s).rollCall = s.rollCall ∧
    (slotLost ch l s).map = s.map ∧ (slotLost ch l s).inb = s.inb ∧ (slotLost ch l s).mem = s.mem ∧
    (slotLost ch l s).trig = s.trig ∧ (slotLost ch l s).guard = s.guard ∧ (slotLost ch l s).frame = s.frame ∧
    (slotLost ch l s).service = s.service ∧ (slotLost ch l s).setup = s.setup ∧
    (slotLost ch l s).settings = s.settings ∧ (slotLost ch l s).snapshots = s.snapshots ∧
    (slotLost ch l s).pending = s.pending ∧
    (slotLost ch l s).freeDraws = s.freeDraws ∧ (slotLost ch l s).trunk.switch = s.trunk.switch ∧
    (slotLost ch l s).trunk.sending = s.trunk.sending := by
  unfold slotLost; (try dsimp only); (repeat' split) <;> simp

@[simp] theorem emptyConflict_frame (ch : Channel) (s : State) :
    (emptyConflict ch s).powered = s.powered ∧ (emptyConflict ch s).pins = s.pins ∧
    (emptyConflict ch s).clock = s.clock ∧ (emptyConflict ch s).trunk = s.trunk ∧
    (emptyConflict ch s).framer = s.framer ∧ (emptyConflict ch s).tb = s.tb ∧
    (emptyConflict ch s).station = s.station ∧ (emptyConflict ch s).progress = s.progress ∧
    (emptyConflict ch s).roster = s.roster ∧ (emptyConflict ch s).rollCall = s.rollCall ∧
    (emptyConflict ch s).map = s.map ∧ (emptyConflict ch s).inb = s.inb ∧ (emptyConflict ch s).mem = s.mem ∧
    (emptyConflict ch s).trig = s.trig ∧ (emptyConflict ch s).guard = s.guard ∧
    (emptyConflict ch s).frame = s.frame ∧ (emptyConflict ch s).service = s.service ∧
    (emptyConflict ch s).setup = s.setup ∧ (emptyConflict ch s).settings = s.settings ∧
    (emptyConflict ch s).snapshots = s.snapshots ∧ (emptyConflict ch s).flags = s.flags ∧
    (emptyConflict ch s).pending = s.pending ∧
    (emptyConflict ch s).freeDraws = s.freeDraws := by
  unfold emptyConflict; (try dsimp only); (repeat' split) <;> simp

@[simp] theorem loseChannel_frame (ch : Channel) (s : State) :
    (loseChannel ch s).powered = s.powered ∧ (loseChannel ch s).pins = s.pins ∧
    (loseChannel ch s).clock = s.clock ∧ (loseChannel ch s).trunk = s.trunk ∧
    (loseChannel ch s).framer = s.framer ∧ (loseChannel ch s).tb = s.tb ∧
    (loseChannel ch s).station = s.station ∧ (loseChannel ch s).progress = s.progress ∧
    (loseChannel ch s).roster = s.roster ∧ (loseChannel ch s).rollCall = s.rollCall ∧
    (loseChannel ch s).map = s.map ∧ (loseChannel ch s).inb = s.inb ∧ (loseChannel ch s).mem = s.mem ∧
    (loseChannel ch s).trig = s.trig ∧ (loseChannel ch s).guard = s.guard ∧
    (loseChannel ch s).frame = s.frame ∧ (loseChannel ch s).service = s.service ∧
    (loseChannel ch s).setup = s.setup ∧ (loseChannel ch s).settings = s.settings ∧
    (loseChannel ch s).snapshots = s.snapshots ∧ (loseChannel ch s).pending = s.pending ∧
    (loseChannel ch s).freeDraws = s.freeDraws := by
  unfold loseChannel; (try dsimp only); (repeat' split) <;> simp

@[simp] theorem closeChannel_frame (ch : Channel) (s : State) :
    (closeChannel ch s).powered = s.powered ∧ (closeChannel ch s).pins = s.pins ∧
    (closeChannel ch s).clock = s.clock ∧ (closeChannel ch s).trunk = s.trunk ∧
    (closeChannel ch s).framer = s.framer ∧ (closeChannel ch s).tb = s.tb ∧
    (closeChannel ch s).station = s.station ∧ (closeChannel ch s).progress = s.progress ∧
    (closeChannel ch s).roster = s.roster ∧ (closeChannel ch s).rollCall = s.rollCall ∧
    (closeChannel ch s).map = s.map ∧ (closeChannel ch s).inb = s.inb ∧ (closeChannel ch s).mem = s.mem ∧
    (closeChannel ch s).trig = s.trig ∧ (closeChannel ch s).guard = s.guard ∧
    (closeChannel ch s).frame = s.frame ∧ (closeChannel ch s).service = s.service ∧
    (closeChannel ch s).setup = s.setup ∧ (closeChannel ch s).settings = s.settings ∧
    (closeChannel ch s).snapshots = s.snapshots ∧ (closeChannel ch s).pending = s.pending ∧
    (closeChannel ch s).freeDraws = s.freeDraws := by
  unfold closeChannel; (try dsimp only); (repeat' split) <;> simp

@[simp] theorem withdrawOutbound_frame (k : Withdrawal) (s : State) :
    (withdrawOutbound k s).powered = s.powered ∧ (withdrawOutbound k s).pins = s.pins ∧
    (withdrawOutbound k s).clock = s.clock ∧ (withdrawOutbound k s).trunk = s.trunk ∧
    (withdrawOutbound k s).framer = s.framer ∧ (withdrawOutbound k s).tb = s.tb ∧
    (withdrawOutbound k s).station = s.station ∧ (withdrawOutbound k s).progress = s.progress ∧
    (withdrawOutbound k s).roster = s.roster ∧ (withdrawOutbound k s).rollCall = s.rollCall ∧
    (withdrawOutbound k s).map = s.map ∧ (withdrawOutbound k s).inb = s.inb ∧
    (withdrawOutbound k s).mem = s.mem ∧ (withdrawOutbound k s).trig = s.trig ∧
    (withdrawOutbound k s).guard = s.guard ∧ (withdrawOutbound k s).frame = s.frame ∧
    (withdrawOutbound k s).service = s.service ∧ (withdrawOutbound k s).setup = s.setup ∧
    (withdrawOutbound k s).settings = s.settings ∧ (withdrawOutbound k s).snapshots = s.snapshots ∧
    (withdrawOutbound k s).pending = s.pending ∧
    (withdrawOutbound k s).freeDraws = s.freeDraws := by
  unfold withdrawOutbound; (try dsimp only); (repeat' split) <;> simp

@[simp] theorem spendSample_frame (ch : Channel) (s : State) :
    (spendSample ch s).powered = s.powered ∧ (spendSample ch s).pins = s.pins ∧
    (spendSample ch s).clock = s.clock ∧ (spendSample ch s).framer = s.framer ∧
    (spendSample ch s).tb = s.tb ∧ (spendSample ch s).station = s.station ∧
    (spendSample ch s).progress = s.progress ∧ (spendSample ch s).roster = s.roster ∧
    (spendSample ch s).rollCall = s.rollCall ∧ (spendSample ch s).map = s.map ∧
    (spendSample ch s).inb = s.inb ∧ (spendSample ch s).mem = s.mem ∧ (spendSample ch s).trig = s.trig ∧
    (spendSample ch s).guard = s.guard ∧ (spendSample ch s).frame = s.frame ∧
    (spendSample ch s).service = s.service ∧ (spendSample ch s).setup = s.setup ∧
    (spendSample ch s).settings = s.settings ∧ (spendSample ch s).snapshots = s.snapshots ∧
    (spendSample ch s).pending = s.pending ∧
    (spendSample ch s).freeDraws = s.freeDraws ∧ (spendSample ch s).trunk.switch = s.trunk.switch := by
  unfold spendSample; (try dsimp only); (repeat' split) <;> simp

@[simp] theorem tellDisplaced_frame (e : QueueEntry) (s : State) :
    (tellDisplaced e s).powered = s.powered ∧ (tellDisplaced e s).pins = s.pins ∧
    (tellDisplaced e s).clock = s.clock ∧ (tellDisplaced e s).framer = s.framer ∧
    (tellDisplaced e s).tb = s.tb ∧ (tellDisplaced e s).station = s.station ∧
    (tellDisplaced e s).progress = s.progress ∧ (tellDisplaced e s).roster = s.roster ∧
    (tellDisplaced e s).rollCall = s.rollCall ∧ (tellDisplaced e s).map = s.map ∧
    (tellDisplaced e s).inb = s.inb ∧ (tellDisplaced e s).mem = s.mem ∧ (tellDisplaced e s).trig = s.trig ∧
    (tellDisplaced e s).guard = s.guard ∧ (tellDisplaced e s).frame = s.frame ∧
    (tellDisplaced e s).service = s.service ∧ (tellDisplaced e s).setup = s.setup ∧
    (tellDisplaced e s).settings = s.settings ∧ (tellDisplaced e s).snapshots = s.snapshots ∧
    (tellDisplaced e s).pending = s.pending ∧
    (tellDisplaced e s).freeDraws = s.freeDraws ∧ (tellDisplaced e s).trunk.switch = s.trunk.switch ∧
    (tellDisplaced e s).trunk.sending = s.trunk.sending := by
  unfold tellDisplaced; (try dsimp only); (repeat' split) <;> simp

@[simp] theorem admitReserved_frame (e : QueueEntry) (s : State) :
    (admitReserved e s).powered = s.powered ∧ (admitReserved e s).pins = s.pins ∧
    (admitReserved e s).clock = s.clock ∧ (admitReserved e s).framer = s.framer ∧
    (admitReserved e s).tb = s.tb ∧ (admitReserved e s).station = s.station ∧
    (admitReserved e s).progress = s.progress ∧ (admitReserved e s).roster = s.roster ∧
    (admitReserved e s).rollCall = s.rollCall ∧ (admitReserved e s).map = s.map ∧
    (admitReserved e s).inb = s.inb ∧ (admitReserved e s).mem = s.mem ∧ (admitReserved e s).trig = s.trig ∧
    (admitReserved e s).guard = s.guard ∧ (admitReserved e s).frame = s.frame ∧
    (admitReserved e s).service = s.service ∧ (admitReserved e s).setup = s.setup ∧
    (admitReserved e s).settings = s.settings ∧ (admitReserved e s).snapshots = s.snapshots ∧
    (admitReserved e s).pending = s.pending ∧
    (admitReserved e s).freeDraws = s.freeDraws ∧ (admitReserved e s).trunk.switch = s.trunk.switch ∧
    (admitReserved e s).trunk.sending = s.trunk.sending := by
  unfold admitReserved; (try dsimp only); (repeat' split) <;> simp

end Sys2Proof.Machine
end

