-- ==== Sys2Proof/Laws/FrameStation.lean ====
section
/-! SUPPORT. What each function leaves unchanged, field by field (the station, the map, the guard, the timebase, the boundary). -/
namespace Sys2Proof.Machine

@[simp] theorem refreshTrouble_frame (g : GuardRecord) :
    (refreshTrouble g).state = g.state ∧ (refreshTrouble g).interval = g.interval ∧
    (refreshTrouble g).thresholds = g.thresholds ∧ (refreshTrouble g).faults = g.faults ∧
    (refreshTrouble g).clean = g.clean ∧ (refreshTrouble g).reports = g.reports := by
  unfold refreshTrouble; split <;> simp

@[simp] theorem judgedRecord_frame (k : IntervalKind) (round : Nat) (g : GuardRecord) :
    (judgedRecord k round g).state = g.state ∧ (judgedRecord k round g).interval = g.interval ∧
    (judgedRecord k round g).thresholds = g.thresholds ∧ (judgedRecord k round g).reports = g.reports := by
  unfold judgedRecord judgedCounts; dsimp only; split <;> simp

@[simp] theorem dropOwnSlots_frame (own : StationId) (m : LaneMap) : (dropOwnSlots own m).resync = m.resync ∧
    (dropOwnSlots own m).epoch = m.epoch := ⟨rfl, rfl⟩

@[simp] theorem startGathering_frame (m : LaneMap) : (startGathering m).entries = m.entries ∧
    (startGathering m).epoch = m.epoch ∧ (startGathering m).resync = m.resync := ⟨rfl, rfl, rfl⟩

@[simp] theorem mapBoundary_frame (m : LaneMap) : (mapBoundary m).entries = m.entries ∧
    (mapBoundary m).epoch = m.epoch ∧ (mapBoundary m).resync = m.resync := ⟨rfl, rfl, rfl⟩

@[simp] theorem freeMap_frame (p : Slot → Holding → Bool) (m : LaneMap) : (freeMap p m).resync = m.resync := by
  unfold freeMap; split <;> rfl

@[simp] theorem evaluateClaim_frame (member : Bool) (c : Claim) (m : LaneMap) :
    (evaluateClaim member c m).2.resync = m.resync := by
  unfold evaluateClaim; (repeat' split) <;> (try dsimp only) <;> (try split) <;> rfl

@[simp] theorem gatherPage_frame (k : Fin 12) (page : Bank 8 (Option Holding)) (m : LaneMap) :
    (gatherPage k page m).resync = m.resync ∧ (gatherPage k page m).epoch = m.epoch := ⟨rfl, rfl⟩

@[simp] theorem clearedGuard_frame (g : GuardRecord) : (clearedGuard g).thresholds = g.thresholds := rfl

@[simp] theorem setEntry_frame (i : StationId) (e : RosterEntry) (s : State) :
    (setEntry i e s).powered = s.powered ∧ (setEntry i e s).pins = s.pins ∧ (setEntry i e s).clock = s.clock ∧
    (setEntry i e s).trunk = s.trunk ∧ (setEntry i e s).framer = s.framer ∧ (setEntry i e s).tb = s.tb ∧
    (setEntry i e s).station = s.station ∧ (setEntry i e s).progress = s.progress ∧
    (setEntry i e s).rollCall = s.rollCall ∧ (setEntry i e s).map = s.map ∧ (setEntry i e s).out = s.out ∧
    (setEntry i e s).inb = s.inb ∧ (setEntry i e s).mem = s.mem ∧ (setEntry i e s).trig = s.trig ∧
    (setEntry i e s).guard = s.guard ∧ (setEntry i e s).frame = s.frame ∧
    (setEntry i e s).service = s.service ∧ (setEntry i e s).setup = s.setup ∧
    (setEntry i e s).settings = s.settings ∧ (setEntry i e s).snapshots = s.snapshots ∧
    (setEntry i e s).pending = s.pending ∧
    (setEntry i e s).freeDraws = s.freeDraws := by
  unfold setEntry; (try dsimp only); (repeat' split) <;> simp

@[simp] theorem makeAbsent_frame (i : StationId) (s : State) :
    (makeAbsent i s).powered = s.powered ∧ (makeAbsent i s).pins = s.pins ∧ (makeAbsent i s).clock = s.clock ∧
    (makeAbsent i s).trunk = s.trunk ∧ (makeAbsent i s).framer = s.framer ∧ (makeAbsent i s).tb = s.tb ∧
    (makeAbsent i s).station = s.station ∧ (makeAbsent i s).progress = s.progress ∧
    (makeAbsent i s).rollCall = s.rollCall ∧ (makeAbsent i s).map = s.map ∧ (makeAbsent i s).out = s.out ∧
    (makeAbsent i s).inb = s.inb ∧ (makeAbsent i s).mem = s.mem ∧ (makeAbsent i s).guard = s.guard ∧
    (makeAbsent i s).frame = s.frame ∧ (makeAbsent i s).service = s.service ∧
    (makeAbsent i s).setup = s.setup ∧ (makeAbsent i s).settings = s.settings ∧
    (makeAbsent i s).snapshots = s.snapshots ∧ (makeAbsent i s).pending = s.pending ∧
    (makeAbsent i s).freeDraws = s.freeDraws ∧
    (makeAbsent i s).trig.pendingTrigger = s.trig.pendingTrigger ∧
    (makeAbsent i s).trig.settings = s.trig.settings ∧ (makeAbsent i s).trig.filtered = s.trig.filtered := by
  unfold makeAbsent; (try dsimp only); (repeat' split) <;> simp

@[simp] theorem makeAllAbsent_frame (l : List StationId) (s : State) :
    (makeAllAbsent l s).powered = s.powered ∧ (makeAllAbsent l s).pins = s.pins ∧ (makeAllAbsent l s).clock = s.clock ∧
    (makeAllAbsent l s).trunk = s.trunk ∧ (makeAllAbsent l s).framer = s.framer ∧ (makeAllAbsent l s).tb = s.tb ∧
    (makeAllAbsent l s).station = s.station ∧ (makeAllAbsent l s).progress = s.progress ∧
    (makeAllAbsent l s).rollCall = s.rollCall ∧ (makeAllAbsent l s).map = s.map ∧ (makeAllAbsent l s).out = s.out ∧
    (makeAllAbsent l s).inb = s.inb ∧ (makeAllAbsent l s).mem = s.mem ∧ (makeAllAbsent l s).guard = s.guard ∧
    (makeAllAbsent l s).frame = s.frame ∧ (makeAllAbsent l s).service = s.service ∧
    (makeAllAbsent l s).setup = s.setup ∧ (makeAllAbsent l s).settings = s.settings ∧
    (makeAllAbsent l s).snapshots = s.snapshots ∧ (makeAllAbsent l s).pending = s.pending ∧
    (makeAllAbsent l s).freeDraws = s.freeDraws ∧
    (makeAllAbsent l s).trig.pendingTrigger = s.trig.pendingTrigger ∧
    (makeAllAbsent l s).trig.settings = s.trig.settings ∧ (makeAllAbsent l s).trig.filtered = s.trig.filtered := by
  induction l generalizing s with
  | nil => simp [makeAllAbsent]
  | cons x xs ih => simp [makeAllAbsent, ih]

@[simp] theorem clearRoster_frame (s : State) :
    (clearRoster s).powered = s.powered ∧ (clearRoster s).pins = s.pins ∧ (clearRoster s).clock = s.clock ∧
    (clearRoster s).trunk = s.trunk ∧ (clearRoster s).framer = s.framer ∧ (clearRoster s).tb = s.tb ∧
    (clearRoster s).station = s.station ∧ (clearRoster s).progress = s.progress ∧
    (clearRoster s).rollCall = s.rollCall ∧ (clearRoster s).map = s.map ∧ (clearRoster s).out = s.out ∧
    (clearRoster s).inb = s.inb ∧ (clearRoster s).mem = s.mem ∧ (clearRoster s).guard = s.guard ∧
    (clearRoster s).frame = s.frame ∧ (clearRoster s).service = s.service ∧ (clearRoster s).setup = s.setup ∧
    (clearRoster s).settings = s.settings ∧ (clearRoster s).snapshots = s.snapshots ∧
    (clearRoster s).pending = s.pending ∧
    (clearRoster s).freeDraws = s.freeDraws ∧ (clearRoster s).trig.pendingTrigger = s.trig.pendingTrigger ∧
    (clearRoster s).trig.settings = s.trig.settings ∧ (clearRoster s).trig.filtered = s.trig.filtered := by
  unfold clearRoster; (try dsimp only); (repeat' split) <;> simp

@[simp] theorem sourceAdopted_frame (j : StationId) (s : State) :
    (sourceAdopted j s).powered = s.powered ∧ (sourceAdopted j s).pins = s.pins ∧
    (sourceAdopted j s).clock = s.clock ∧ (sourceAdopted j s).trunk = s.trunk ∧
    (sourceAdopted j s).framer = s.framer ∧ (sourceAdopted j s).tb = s.tb ∧
    (sourceAdopted j s).station = s.station ∧ (sourceAdopted j s).progress = s.progress ∧
    (sourceAdopted j s).rollCall = s.rollCall ∧ (sourceAdopted j s).map = s.map ∧
    (sourceAdopted j s).out = s.out ∧ (sourceAdopted j s).inb = s.inb ∧ (sourceAdopted j s).mem = s.mem ∧
    (sourceAdopted j s).trig = s.trig ∧ (sourceAdopted j s).guard = s.guard ∧
    (sourceAdopted j s).frame = s.frame ∧ (sourceAdopted j s).service = s.service ∧
    (sourceAdopted j s).setup = s.setup ∧ (sourceAdopted j s).settings = s.settings ∧
    (sourceAdopted j s).snapshots = s.snapshots ∧ (sourceAdopted j s).flags = s.flags ∧
    (sourceAdopted j s).pending = s.pending ∧
    (sourceAdopted j s).freeDraws = s.freeDraws := by
  unfold sourceAdopted; (try dsimp only); (repeat' split) <;> simp

@[simp] theorem rosterSourceLost_frame (lost : Option StationId) (s : State) :
    (rosterSourceLost lost s).powered = s.powered ∧ (rosterSourceLost lost s).pins = s.pins ∧
    (rosterSourceLost lost s).clock = s.clock ∧ (rosterSourceLost lost s).trunk = s.trunk ∧
    (rosterSourceLost lost s).framer = s.framer ∧ (rosterSourceLost lost s).tb = s.tb ∧
    (rosterSourceLost lost s).station = s.station ∧ (rosterSourceLost lost s).progress = s.progress ∧
    (rosterSourceLost lost s).rollCall = s.rollCall ∧ (rosterSourceLost lost s).map = s.map ∧
    (rosterSourceLost lost s).out = s.out ∧ (rosterSourceLost lost s).inb = s.inb ∧
    (rosterSourceLost lost s).mem = s.mem ∧ (rosterSourceLost lost s).guard = s.guard ∧
    (rosterSourceLost lost s).frame = s.frame ∧ (rosterSourceLost lost s).service = s.service ∧
    (rosterSourceLost lost s).setup = s.setup ∧ (rosterSourceLost lost s).settings = s.settings ∧
    (rosterSourceLost lost s).snapshots = s.snapshots ∧ (rosterSourceLost lost s).pending = s.pending ∧
    (rosterSourceLost lost s).freeDraws = s.freeDraws ∧
    (rosterSourceLost lost s).trig.pendingTrigger = s.trig.pendingTrigger ∧
    (rosterSourceLost lost s).trig.settings = s.trig.settings ∧
    (rosterSourceLost lost s).trig.filtered = s.trig.filtered := by
  unfold rosterSourceLost; (try dsimp only); (repeat' split) <;> simp

@[simp] theorem setStation_frame (st : StationState) (s : State) :
    (setStation st s).powered = s.powered ∧ (setStation st s).pins = s.pins ∧
    (setStation st s).clock = s.clock ∧ (setStation st s).trunk = s.trunk ∧
    (setStation st s).framer = s.framer ∧ (setStation st s).tb = s.tb ∧
    (setStation st s).progress = s.progress ∧ (setStation st s).roster = s.roster ∧
    (setStation st s).rollCall = s.rollCall ∧ (setStation st s).map = s.map ∧ (setStation st s).out = s.out ∧
    (setStation st s).inb = s.inb ∧ (setStation st s).mem = s.mem ∧ (setStation st s).trig = s.trig ∧
    (setStation st s).guard = s.guard ∧ (setStation st s).frame = s.frame ∧
    (setStation st s).service = s.service ∧ (setStation st s).setup = s.setup ∧
    (setStation st s).settings = s.settings ∧ (setStation st s).snapshots = s.snapshots ∧
    (setStation st s).pending = s.pending ∧
    (setStation st s).freeDraws = s.freeDraws := by
  unfold setStation; (try dsimp only); (repeat' split) <;> simp

@[simp] theorem standOutside_frame (st : StationState) (s : State) :
    (standOutside st s).powered = s.powered ∧ (standOutside st s).pins = s.pins ∧
    (standOutside st s).clock = s.clock ∧ (standOutside st s).trunk = s.trunk ∧
    (standOutside st s).framer = s.framer ∧ (standOutside st s).rollCall = s.rollCall ∧
    (standOutside st s).out = s.out ∧ (standOutside st s).mem = s.mem ∧ (standOutside st s).guard = s.guard ∧
    (standOutside st s).frame = s.frame ∧ (standOutside st s).service = s.service ∧
    (standOutside st s).setup = s.setup ∧ (standOutside st s).settings = s.settings ∧
    (standOutside st s).snapshots = s.snapshots ∧ (standOutside st s).pending = s.pending ∧
    (standOutside st s).freeDraws = s.freeDraws ∧
    (standOutside st s).tb.role = s.tb.role ∧ (standOutside st s).tb.designated = s.tb.designated ∧
    (standOutside st s).tb.election = s.tb.election ∧ (standOutside st s).tb.period = s.tb.period ∧
    (standOutside st s).tb.lock = s.tb.lock ∧ (standOutside st s).tb.missed = s.tb.missed ∧
    (standOutside st s).tb.expected = s.tb.expected ∧ (standOutside st s).tb.markDue = s.tb.markDue ∧
    (standOutside st s).tb.orphan = s.tb.orphan ∧
    (standOutside st s).trig.pendingTrigger = s.trig.pendingTrigger ∧
    (standOutside st s).trig.settings = s.trig.settings ∧ (standOutside st s).trig.filtered = s.trig.filtered := by
  unfold standOutside; (try dsimp only); (repeat' split) <;> simp

@[simp] theorem startListen_frame (s : State) :
    (startListen s).powered = s.powered ∧ (startListen s).pins = s.pins ∧ (startListen s).clock = s.clock ∧
    (startListen s).trunk = s.trunk ∧ (startListen s).framer = s.framer ∧ (startListen s).station = s.station ∧
    (startListen s).progress = s.progress ∧ (startListen s).roster = s.roster ∧
    (startListen s).rollCall = s.rollCall ∧ (startListen s).map = s.map ∧ (startListen s).out = s.out ∧
    (startListen s).inb = s.inb ∧ (startListen s).mem = s.mem ∧ (startListen s).trig = s.trig ∧
    (startListen s).guard = s.guard ∧ (startListen s).frame = s.frame ∧ (startListen s).service = s.service ∧
    (startListen s).setup = s.setup ∧ (startListen s).settings = s.settings ∧
    (startListen s).snapshots = s.snapshots ∧ (startListen s).flags = s.flags ∧
    (startListen s).pending = s.pending ∧
    (startListen s).freeDraws = s.freeDraws ∧ (startListen s).tb.role = s.tb.role ∧
    (startListen s).tb.designated = s.tb.designated ∧ (startListen s).tb.election = s.tb.election ∧
    (startListen s).tb.period = s.tb.period ∧ (startListen s).tb.lock = s.tb.lock ∧
    (startListen s).tb.missed = s.tb.missed ∧ (startListen s).tb.expected = s.tb.expected ∧
    (startListen s).tb.markDue = s.tb.markDue ∧ (startListen s).tb.orphan = s.tb.orphan := by
  unfold startListen; (try dsimp only); (repeat' split) <;> simp

@[simp] theorem enterListening_frame (s : State) :
    (enterListening s).powered = s.powered ∧ (enterListening s).pins = s.pins ∧
    (enterListening s).clock = s.clock ∧ (enterListening s).trunk = s.trunk ∧
    (enterListening s).framer = s.framer ∧ (enterListening s).rollCall = s.rollCall ∧
    (enterListening s).out = s.out ∧ (enterListening s).mem = s.mem ∧ (enterListening s).guard = s.guard ∧
    (enterListening s).frame = s.frame ∧ (enterListening s).service = s.service ∧
    (enterListening s).setup = s.setup ∧ (enterListening s).settings = s.settings ∧
    (enterListening s).snapshots = s.snapshots ∧ (enterListening s).pending = s.pending ∧
    (enterListening s).freeDraws = s.freeDraws ∧
    (enterListening s).tb.role = s.tb.role ∧ (enterListening s).tb.designated = s.tb.designated ∧
    (enterListening s).tb.election = s.tb.election ∧ (enterListening s).tb.period = s.tb.period ∧
    (enterListening s).tb.lock = s.tb.lock ∧ (enterListening s).tb.missed = s.tb.missed ∧
    (enterListening s).tb.expected = s.tb.expected ∧ (enterListening s).tb.markDue = s.tb.markDue ∧
    (enterListening s).tb.orphan = s.tb.orphan ∧
    (enterListening s).trig.pendingTrigger = s.trig.pendingTrigger ∧
    (enterListening s).trig.settings = s.trig.settings ∧ (enterListening s).trig.filtered = s.trig.filtered := by
  unfold enterListening; (try dsimp only); (repeat' split) <;> simp

@[simp] theorem enterParked_frame (s : State) :
    (enterParked s).powered = s.powered ∧ (enterParked s).pins = s.pins ∧ (enterParked s).clock = s.clock ∧
    (enterParked s).trunk = s.trunk ∧ (enterParked s).framer = s.framer ∧
    (enterParked s).rollCall = s.rollCall ∧ (enterParked s).out = s.out ∧ (enterParked s).mem = s.mem ∧
    (enterParked s).guard = s.guard ∧ (enterParked s).frame = s.frame ∧ (enterParked s).service = s.service ∧
    (enterParked s).setup = s.setup ∧ (enterParked s).settings = s.settings ∧
    (enterParked s).snapshots = s.snapshots ∧ (enterParked s).pending = s.pending ∧
    (enterParked s).freeDraws = s.freeDraws ∧
    (enterParked s).tb.role = s.tb.role ∧ (enterParked s).tb.designated = s.tb.designated ∧
    (enterParked s).tb.election = s.tb.election ∧ (enterParked s).tb.period = s.tb.period ∧
    (enterParked s).tb.lock = s.tb.lock ∧ (enterParked s).tb.missed = s.tb.missed ∧
    (enterParked s).tb.expected = s.tb.expected ∧ (enterParked s).tb.markDue = s.tb.markDue ∧
    (enterParked s).tb.orphan = s.tb.orphan ∧ (enterParked s).trig.pendingTrigger = s.trig.pendingTrigger ∧
    (enterParked s).trig.settings = s.trig.settings ∧ (enterParked s).trig.filtered = s.trig.filtered := by
  unfold enterParked; (try dsimp only); (repeat' split) <;> simp

@[simp] theorem enterBlocked_frame (r : BlockReason) (s : State) :
    (enterBlocked r s).powered = s.powered ∧ (enterBlocked r s).pins = s.pins ∧
    (enterBlocked r s).clock = s.clock ∧ (enterBlocked r s).trunk = s.trunk ∧
    (enterBlocked r s).framer = s.framer ∧ (enterBlocked r s).rollCall = s.rollCall ∧
    (enterBlocked r s).out = s.out ∧ (enterBlocked r s).mem = s.mem ∧ (enterBlocked r s).guard = s.guard ∧
    (enterBlocked r s).frame = s.frame ∧ (enterBlocked r s).service = s.service ∧
    (enterBlocked r s).setup = s.setup ∧ (enterBlocked r s).settings = s.settings ∧
    (enterBlocked r s).snapshots = s.snapshots ∧ (enterBlocked r s).pending = s.pending ∧
    (enterBlocked r s).freeDraws = s.freeDraws ∧
    (enterBlocked r s).tb.role = s.tb.role ∧ (enterBlocked r s).tb.designated = s.tb.designated ∧
    (enterBlocked r s).tb.election = s.tb.election ∧ (enterBlocked r s).tb.period = s.tb.period ∧
    (enterBlocked r s).tb.lock = s.tb.lock ∧ (enterBlocked r s).tb.missed = s.tb.missed ∧
    (enterBlocked r s).tb.expected = s.tb.expected ∧ (enterBlocked r s).tb.markDue = s.tb.markDue ∧
    (enterBlocked r s).tb.orphan = s.tb.orphan ∧
    (enterBlocked r s).trig.pendingTrigger = s.trig.pendingTrigger ∧
    (enterBlocked r s).trig.settings = s.trig.settings ∧ (enterBlocked r s).trig.filtered = s.trig.filtered := by
  unfold enterBlocked; (try dsimp only); (repeat' split) <;> simp

@[simp] theorem countOverrun_frame (s : State) :
    (countOverrun s).powered = s.powered ∧ (countOverrun s).pins = s.pins ∧ (countOverrun s).clock = s.clock ∧
    (countOverrun s).trunk = s.trunk ∧ (countOverrun s).framer = s.framer ∧ (countOverrun s).tb = s.tb ∧
    (countOverrun s).station = s.station ∧ (countOverrun s).progress = s.progress ∧
    (countOverrun s).roster = s.roster ∧ (countOverrun s).rollCall = s.rollCall ∧
    (countOverrun s).map = s.map ∧ (countOverrun s).out = s.out ∧ (countOverrun s).inb = s.inb ∧
    (countOverrun s).mem = s.mem ∧ (countOverrun s).guard = s.guard ∧ (countOverrun s).frame = s.frame ∧
    (countOverrun s).service = s.service ∧ (countOverrun s).setup = s.setup ∧
    (countOverrun s).settings = s.settings ∧ (countOverrun s).snapshots = s.snapshots ∧
    (countOverrun s).pending = s.pending ∧
    (countOverrun s).freeDraws = s.freeDraws ∧ (countOverrun s).trig.pendingTrigger = s.trig.pendingTrigger ∧
    (countOverrun s).trig.settings = s.trig.settings ∧ (countOverrun s).trig.filtered = s.trig.filtered := by
  unfold countOverrun; (try dsimp only); (repeat' split) <;> simp

@[simp] theorem emptyTriggerSlot_frame (s : State) :
    (emptyTriggerSlot s).powered = s.powered ∧ (emptyTriggerSlot s).pins = s.pins ∧
    (emptyTriggerSlot s).clock = s.clock ∧ (emptyTriggerSlot s).trunk = s.trunk ∧
    (emptyTriggerSlot s).framer = s.framer ∧ (emptyTriggerSlot s).tb = s.tb ∧
    (emptyTriggerSlot s).station = s.station ∧ (emptyTriggerSlot s).progress = s.progress ∧
    (emptyTriggerSlot s).roster = s.roster ∧ (emptyTriggerSlot s).rollCall = s.rollCall ∧
    (emptyTriggerSlot s).map = s.map ∧ (emptyTriggerSlot s).out = s.out ∧ (emptyTriggerSlot s).inb = s.inb ∧
    (emptyTriggerSlot s).mem = s.mem ∧ (emptyTriggerSlot s).guard = s.guard ∧
    (emptyTriggerSlot s).frame = s.frame ∧ (emptyTriggerSlot s).service = s.service ∧
    (emptyTriggerSlot s).setup = s.setup ∧ (emptyTriggerSlot s).settings = s.settings ∧
    (emptyTriggerSlot s).snapshots = s.snapshots ∧ (emptyTriggerSlot s).pending = s.pending ∧
    (emptyTriggerSlot s).freeDraws = s.freeDraws ∧
    (emptyTriggerSlot s).trig.settings = s.trig.settings ∧ (emptyTriggerSlot s).trig.filtered = s.trig.filtered := by
  unfold emptyTriggerSlot; (try dsimp only); (repeat' split) <;> simp

@[simp] theorem withdrawGuard_frame (s : State) :
    (withdrawGuard s).powered = s.powered ∧ (withdrawGuard s).pins = s.pins ∧
    (withdrawGuard s).clock = s.clock ∧ (withdrawGuard s).trunk = s.trunk ∧
    (withdrawGuard s).framer = s.framer ∧ (withdrawGuard s).tb = s.tb ∧ (withdrawGuard s).station = s.station ∧
    (withdrawGuard s).progress = s.progress ∧ (withdrawGuard s).roster = s.roster ∧
    (withdrawGuard s).rollCall = s.rollCall ∧ (withdrawGuard s).map = s.map ∧ (withdrawGuard s).out = s.out ∧
    (withdrawGuard s).inb = s.inb ∧ (withdrawGuard s).mem = s.mem ∧ (withdrawGuard s).trig = s.trig ∧
    (withdrawGuard s).frame = s.frame ∧ (withdrawGuard s).service = s.service ∧
    (withdrawGuard s).setup = s.setup ∧ (withdrawGuard s).settings = s.settings ∧
    (withdrawGuard s).snapshots = s.snapshots ∧ (withdrawGuard s).pending = s.pending ∧
    (withdrawGuard s).freeDraws = s.freeDraws ∧
    (withdrawGuard s).guard.thresholds = s.guard.thresholds := by
  unfold withdrawGuard; (try dsimp only); (repeat' split) <;> simp

@[simp] theorem withdraw_frame (k : Withdrawal) (s : State) :
    (withdraw k s).powered = s.powered ∧ (withdraw k s).pins = s.pins ∧ (withdraw k s).clock = s.clock ∧
    (withdraw k s).trunk = s.trunk ∧ (withdraw k s).framer = s.framer ∧ (withdraw k s).tb = s.tb ∧
    (withdraw k s).progress = s.progress ∧ (withdraw k s).rollCall = s.rollCall ∧ (withdraw k s).mem = s.mem ∧
    (withdraw k s).frame = s.frame ∧ (withdraw k s).service = s.service ∧ (withdraw k s).setup = s.setup ∧
    (withdraw k s).settings = s.settings ∧ (withdraw k s).snapshots = s.snapshots ∧
    (withdraw k s).pending = s.pending ∧
    (withdraw k s).freeDraws = s.freeDraws ∧ (withdraw k s).station.state = s.station.state ∧
    (withdraw k s).guard.thresholds = s.guard.thresholds ∧ (withdraw k s).trig.settings = s.trig.settings ∧
    (withdraw k s).trig.filtered = s.trig.filtered := by
  unfold withdraw; (try dsimp only); (repeat' split) <;> simp

@[simp] theorem queueHandoff_frame (s : State) :
    (queueHandoff s).powered = s.powered ∧ (queueHandoff s).pins = s.pins ∧ (queueHandoff s).clock = s.clock ∧
    (queueHandoff s).framer = s.framer ∧ (queueHandoff s).tb = s.tb ∧ (queueHandoff s).station = s.station ∧
    (queueHandoff s).progress = s.progress ∧ (queueHandoff s).roster = s.roster ∧
    (queueHandoff s).rollCall = s.rollCall ∧ (queueHandoff s).map = s.map ∧ (queueHandoff s).inb = s.inb ∧
    (queueHandoff s).mem = s.mem ∧ (queueHandoff s).trig = s.trig ∧ (queueHandoff s).guard = s.guard ∧
    (queueHandoff s).frame = s.frame ∧ (queueHandoff s).service = s.service ∧
    (queueHandoff s).setup = s.setup ∧ (queueHandoff s).settings = s.settings ∧
    (queueHandoff s).snapshots = s.snapshots ∧ (queueHandoff s).pending = s.pending ∧
    (queueHandoff s).freeDraws = s.freeDraws ∧
    (queueHandoff s).trunk.switch = s.trunk.switch ∧ (queueHandoff s).trunk.sending = s.trunk.sending := by
  unfold queueHandoff; (try dsimp only); (repeat' split) <;> simp

@[simp] theorem startLeaving_frame (outcome : LeaveOutcome) (s : State) :
    (startLeaving outcome s).powered = s.powered ∧ (startLeaving outcome s).pins = s.pins ∧
    (startLeaving outcome s).clock = s.clock ∧ (startLeaving outcome s).framer = s.framer ∧
    (startLeaving outcome s).tb = s.tb ∧ (startLeaving outcome s).roster = s.roster ∧
    (startLeaving outcome s).rollCall = s.rollCall ∧ (startLeaving outcome s).map = s.map ∧
    (startLeaving outcome s).inb = s.inb ∧ (startLeaving outcome s).mem = s.mem ∧
    (startLeaving outcome s).trig = s.trig ∧ (startLeaving outcome s).guard = s.guard ∧
    (startLeaving outcome s).frame = s.frame ∧ (startLeaving outcome s).service = s.service ∧
    (startLeaving outcome s).setup = s.setup ∧ (startLeaving outcome s).settings = s.settings ∧
    (startLeaving outcome s).snapshots = s.snapshots ∧ (startLeaving outcome s).pending = s.pending ∧
    (startLeaving outcome s).freeDraws = s.freeDraws ∧
    (startLeaving outcome s).trunk.switch = s.trunk.switch ∧
    (startLeaving outcome s).trunk.sending = s.trunk.sending := by
  unfold startLeaving; (try dsimp only); (repeat' split) <;> simp

@[simp] theorem raiseRejoin_frame (s : State) :
    (raiseRejoin s).powered = s.powered ∧ (raiseRejoin s).pins = s.pins ∧ (raiseRejoin s).clock = s.clock ∧
    (raiseRejoin s).framer = s.framer ∧ (raiseRejoin s).tb = s.tb ∧ (raiseRejoin s).roster = s.roster ∧
    (raiseRejoin s).rollCall = s.rollCall ∧ (raiseRejoin s).map = s.map ∧ (raiseRejoin s).inb = s.inb ∧
    (raiseRejoin s).mem = s.mem ∧ (raiseRejoin s).trig = s.trig ∧ (raiseRejoin s).guard = s.guard ∧
    (raiseRejoin s).frame = s.frame ∧ (raiseRejoin s).service = s.service ∧ (raiseRejoin s).setup = s.setup ∧
    (raiseRejoin s).settings = s.settings ∧ (raiseRejoin s).snapshots = s.snapshots ∧
    (raiseRejoin s).pending = s.pending ∧
    (raiseRejoin s).freeDraws = s.freeDraws ∧ (raiseRejoin s).trunk.switch = s.trunk.switch ∧
    (raiseRejoin s).trunk.sending = s.trunk.sending := by
  unfold raiseRejoin; (try dsimp only); (repeat' split) <;> simp

@[simp] theorem endLeaving_frame (s : State) :
    (endLeaving s).powered = s.powered ∧ (endLeaving s).pins = s.pins ∧ (endLeaving s).clock = s.clock ∧
    (endLeaving s).trunk = s.trunk ∧ (endLeaving s).framer = s.framer ∧ (endLeaving s).rollCall = s.rollCall ∧
    (endLeaving s).mem = s.mem ∧ (endLeaving s).frame = s.frame ∧ (endLeaving s).service = s.service ∧
    (endLeaving s).setup = s.setup ∧ (endLeaving s).settings = s.settings ∧
    (endLeaving s).snapshots = s.snapshots ∧ (endLeaving s).pending = s.pending ∧
    (endLeaving s).freeDraws = s.freeDraws ∧
    (endLeaving s).tb.role = s.tb.role ∧ (endLeaving s).tb.designated = s.tb.designated ∧
    (endLeaving s).tb.election = s.tb.election ∧ (endLeaving s).tb.period = s.tb.period ∧
    (endLeaving s).guard.thresholds = s.guard.thresholds ∧ (endLeaving s).tb.lock = s.tb.lock ∧
    (endLeaving s).tb.missed = s.tb.missed ∧ (endLeaving s).tb.expected = s.tb.expected ∧
    (endLeaving s).tb.markDue = s.tb.markDue ∧ (endLeaving s).tb.orphan = s.tb.orphan ∧
    (endLeaving s).trig.settings = s.trig.settings ∧ (endLeaving s).trig.filtered = s.trig.filtered := by
  unfold endLeaving; (try dsimp only); (repeat' split) <;> simp

@[simp] theorem endLeavingIfTaken_frame (s : State) :
    (endLeavingIfTaken s).powered = s.powered ∧ (endLeavingIfTaken s).pins = s.pins ∧
    (endLeavingIfTaken s).clock = s.clock ∧ (endLeavingIfTaken s).trunk = s.trunk ∧
    (endLeavingIfTaken s).framer = s.framer ∧ (endLeavingIfTaken s).rollCall = s.rollCall ∧
    (endLeavingIfTaken s).mem = s.mem ∧ (endLeavingIfTaken s).frame = s.frame ∧
    (endLeavingIfTaken s).service = s.service ∧ (endLeavingIfTaken s).setup = s.setup ∧
    (endLeavingIfTaken s).settings = s.settings ∧ (endLeavingIfTaken s).snapshots = s.snapshots ∧
    (endLeavingIfTaken s).pending = s.pending ∧
    (endLeavingIfTaken s).freeDraws = s.freeDraws ∧ (endLeavingIfTaken s).tb.role = s.tb.role ∧
    (endLeavingIfTaken s).tb.designated = s.tb.designated ∧ (endLeavingIfTaken s).tb.election = s.tb.election ∧
    (endLeavingIfTaken s).tb.period = s.tb.period ∧
    (endLeavingIfTaken s).guard.thresholds = s.guard.thresholds ∧ (endLeavingIfTaken s).tb.lock = s.tb.lock ∧
    (endLeavingIfTaken s).tb.missed = s.tb.missed ∧ (endLeavingIfTaken s).tb.expected = s.tb.expected ∧
    (endLeavingIfTaken s).tb.markDue = s.tb.markDue ∧ (endLeavingIfTaken s).tb.orphan = s.tb.orphan ∧
    (endLeavingIfTaken s).trig.settings = s.trig.settings ∧
    (endLeavingIfTaken s).trig.filtered = s.trig.filtered := by
  unfold endLeavingIfTaken; (try dsimp only); (repeat' split) <;> simp

@[simp] theorem enterIsolated_frame (s : State) :
    (enterIsolated s).powered = s.powered ∧ (enterIsolated s).pins = s.pins ∧
    (enterIsolated s).clock = s.clock ∧ (enterIsolated s).trunk = s.trunk ∧
    (enterIsolated s).framer = s.framer ∧ (enterIsolated s).roster = s.roster ∧
    (enterIsolated s).rollCall = s.rollCall ∧ (enterIsolated s).inb = s.inb ∧ (enterIsolated s).mem = s.mem ∧
    (enterIsolated s).trig = s.trig ∧ (enterIsolated s).guard = s.guard ∧ (enterIsolated s).frame = s.frame ∧
    (enterIsolated s).service = s.service ∧ (enterIsolated s).setup = s.setup ∧
    (enterIsolated s).settings = s.settings ∧ (enterIsolated s).snapshots = s.snapshots ∧
    (enterIsolated s).pending = s.pending ∧
    (enterIsolated s).freeDraws = s.freeDraws ∧ (enterIsolated s).tb.role = s.tb.role ∧
    (enterIsolated s).tb.designated = s.tb.designated ∧ (enterIsolated s).tb.election = s.tb.election ∧
    (enterIsolated s).tb.period = s.tb.period ∧ (enterIsolated s).map.resync = s.map.resync ∧
    (enterIsolated s).map.epoch = s.map.epoch ∧ (enterIsolated s).tb.lock = s.tb.lock ∧
    (enterIsolated s).tb.missed = s.tb.missed ∧ (enterIsolated s).tb.expected = s.tb.expected ∧
    (enterIsolated s).tb.markDue = s.tb.markDue ∧ (enterIsolated s).tb.orphan = s.tb.orphan := by
  unfold enterIsolated; (try dsimp only); (repeat' split) <;> simp

@[simp] theorem becomeJoined_frame (round : Nat) (s : State) :
    (becomeJoined round s).powered = s.powered ∧ (becomeJoined round s).pins = s.pins ∧
    (becomeJoined round s).clock = s.clock ∧ (becomeJoined round s).framer = s.framer ∧
    (becomeJoined round s).tb = s.tb ∧ (becomeJoined round s).rollCall = s.rollCall ∧
    (becomeJoined round s).map = s.map ∧ (becomeJoined round s).mem = s.mem ∧
    (becomeJoined round s).trig = s.trig ∧ (becomeJoined round s).frame = s.frame ∧
    (becomeJoined round s).service = s.service ∧ (becomeJoined round s).setup = s.setup ∧
    (becomeJoined round s).settings = s.settings ∧ (becomeJoined round s).snapshots = s.snapshots ∧
    (becomeJoined round s).pending = s.pending ∧
    (becomeJoined round s).freeDraws = s.freeDraws ∧ (becomeJoined round s).trunk.switch = s.trunk.switch ∧
    (becomeJoined round s).trunk.sending = s.trunk.sending ∧
    (becomeJoined round s).guard.state = s.guard.state ∧
    (becomeJoined round s).guard.interval = s.guard.interval ∧
    (becomeJoined round s).guard.thresholds = s.guard.thresholds ∧
    (becomeJoined round s).progress.leaveClosingDue = s.progress.leaveClosingDue ∧
    (becomeJoined round s).progress.leavingDue = s.progress.leavingDue ∧
    (becomeJoined round s).progress.ownLeaveTaken = s.progress.ownLeaveTaken := by
  unfold becomeJoined; (try dsimp only); (repeat' split) <;> simp

@[simp] theorem abandonAdmission_frame (s : State) :
    (abandonAdmission s).powered = s.powered ∧ (abandonAdmission s).pins = s.pins ∧
    (abandonAdmission s).clock = s.clock ∧ (abandonAdmission s).trunk = s.trunk ∧
    (abandonAdmission s).framer = s.framer ∧ (abandonAdmission s).rollCall = s.rollCall ∧
    (abandonAdmission s).mem = s.mem ∧ (abandonAdmission s).frame = s.frame ∧
    (abandonAdmission s).service = s.service ∧ (abandonAdmission s).setup = s.setup ∧
    (abandonAdmission s).settings = s.settings ∧ (abandonAdmission s).snapshots = s.snapshots ∧
    (abandonAdmission s).pending = s.pending ∧
    (abandonAdmission s).freeDraws = s.freeDraws ∧ (abandonAdmission s).tb.role = s.tb.role ∧
    (abandonAdmission s).tb.designated = s.tb.designated ∧ (abandonAdmission s).tb.election = s.tb.election ∧
    (abandonAdmission s).tb.period = s.tb.period ∧ (abandonAdmission s).guard.thresholds = s.guard.thresholds ∧
    (abandonAdmission s).tb.lock = s.tb.lock ∧ (abandonAdmission s).tb.missed = s.tb.missed ∧
    (abandonAdmission s).tb.expected = s.tb.expected ∧ (abandonAdmission s).tb.markDue = s.tb.markDue ∧
    (abandonAdmission s).tb.orphan = s.tb.orphan ∧ (abandonAdmission s).trig.settings = s.trig.settings ∧
    (abandonAdmission s).trig.filtered = s.trig.filtered := by
  unfold abandonAdmission; (try dsimp only); (repeat' split) <;> simp

@[simp] theorem freeBy_frame (p : Slot → Holding → Bool) (s : State) :
    (freeBy p s).powered = s.powered ∧ (freeBy p s).pins = s.pins ∧ (freeBy p s).clock = s.clock ∧
    (freeBy p s).trunk = s.trunk ∧ (freeBy p s).framer = s.framer ∧ (freeBy p s).tb = s.tb ∧
    (freeBy p s).station = s.station ∧ (freeBy p s).progress = s.progress ∧ (freeBy p s).roster = s.roster ∧
    (freeBy p s).rollCall = s.rollCall ∧ (freeBy p s).out = s.out ∧ (freeBy p s).mem = s.mem ∧
    (freeBy p s).trig = s.trig ∧ (freeBy p s).guard = s.guard ∧ (freeBy p s).frame = s.frame ∧
    (freeBy p s).service = s.service ∧ (freeBy p s).setup = s.setup ∧ (freeBy p s).settings = s.settings ∧
    (freeBy p s).snapshots = s.snapshots ∧ (freeBy p s).pending = s.pending ∧
    (freeBy p s).map.resync = s.map.resync := by
  unfold freeBy; (try dsimp only); (repeat' split) <;> simp

@[simp] theorem departure_frame (i : StationId) (s : State) :
    (departure i s).powered = s.powered ∧ (departure i s).pins = s.pins ∧ (departure i s).clock = s.clock ∧
    (departure i s).trunk = s.trunk ∧ (departure i s).framer = s.framer ∧ (departure i s).tb = s.tb ∧
    (departure i s).station = s.station ∧ (departure i s).progress = s.progress ∧
    (departure i s).roster = s.roster ∧ (departure i s).rollCall = s.rollCall ∧ (departure i s).out = s.out ∧
    (departure i s).mem = s.mem ∧ (departure i s).trig = s.trig ∧ (departure i s).guard = s.guard ∧
    (departure i s).frame = s.frame ∧ (departure i s).service = s.service ∧ (departure i s).setup = s.setup ∧
    (departure i s).settings = s.settings ∧ (departure i s).snapshots = s.snapshots ∧
    (departure i s).pending = s.pending ∧ (departure i s).map.resync = s.map.resync := by
  unfold departure; (try dsimp only); (repeat' split) <;> simp

@[simp] theorem departuresOf_frame (l : List StationId) (s : State) :
    (departuresOf l s).powered = s.powered ∧ (departuresOf l s).pins = s.pins ∧
    (departuresOf l s).clock = s.clock ∧ (departuresOf l s).trunk = s.trunk ∧
    (departuresOf l s).framer = s.framer ∧ (departuresOf l s).tb = s.tb ∧
    (departuresOf l s).station = s.station ∧ (departuresOf l s).progress = s.progress ∧
    (departuresOf l s).roster = s.roster ∧ (departuresOf l s).rollCall = s.rollCall ∧
    (departuresOf l s).out = s.out ∧ (departuresOf l s).mem = s.mem ∧ (departuresOf l s).trig = s.trig ∧
    (departuresOf l s).guard = s.guard ∧ (departuresOf l s).frame = s.frame ∧
    (departuresOf l s).service = s.service ∧ (departuresOf l s).setup = s.setup ∧
    (departuresOf l s).settings = s.settings ∧ (departuresOf l s).snapshots = s.snapshots ∧
    (departuresOf l s).pending = s.pending ∧ (departuresOf l s).map.resync = s.map.resync := by
  induction l generalizing s with
  | nil => simp [departuresOf]
  | cons x xs ih => simp [departuresOf, ih]

@[simp] theorem applyDepartures_frame (s : State) :
    (applyDepartures s).powered = s.powered ∧ (applyDepartures s).pins = s.pins ∧
    (applyDepartures s).clock = s.clock ∧ (applyDepartures s).trunk = s.trunk ∧
    (applyDepartures s).framer = s.framer ∧ (applyDepartures s).tb = s.tb ∧
    (applyDepartures s).station = s.station ∧ (applyDepartures s).progress = s.progress ∧
    (applyDepartures s).roster = s.roster ∧ (applyDepartures s).rollCall = s.rollCall ∧
    (applyDepartures s).out = s.out ∧ (applyDepartures s).mem = s.mem ∧ (applyDepartures s).trig = s.trig ∧
    (applyDepartures s).guard = s.guard ∧ (applyDepartures s).frame = s.frame ∧
    (applyDepartures s).service = s.service ∧ (applyDepartures s).setup = s.setup ∧
    (applyDepartures s).settings = s.settings ∧ (applyDepartures s).snapshots = s.snapshots ∧
    (applyDepartures s).pending = s.pending ∧ (applyDepartures s).map.resync = s.map.resync := by
  unfold applyDepartures; (try dsimp only); (repeat' split) <;> simp

@[simp] theorem mapSourceLost_frame (lost : Option StationId) (s : State) :
    (mapSourceLost lost s).powered = s.powered ∧ (mapSourceLost lost s).pins = s.pins ∧
    (mapSourceLost lost s).clock = s.clock ∧ (mapSourceLost lost s).trunk = s.trunk ∧
    (mapSourceLost lost s).framer = s.framer ∧ (mapSourceLost lost s).tb = s.tb ∧
    (mapSourceLost lost s).station = s.station ∧ (mapSourceLost lost s).progress = s.progress ∧
    (mapSourceLost lost s).roster = s.roster ∧ (mapSourceLost lost s).rollCall = s.rollCall ∧
    (mapSourceLost lost s).out = s.out ∧ (mapSourceLost lost s).mem = s.mem ∧
    (mapSourceLost lost s).trig = s.trig ∧ (mapSourceLost lost s).guard = s.guard ∧
    (mapSourceLost lost s).frame = s.frame ∧ (mapSourceLost lost s).service = s.service ∧
    (mapSourceLost lost s).setup = s.setup ∧ (mapSourceLost lost s).settings = s.settings ∧
    (mapSourceLost lost s).snapshots = s.snapshots ∧ (mapSourceLost lost s).pending = s.pending ∧
    (mapSourceLost lost s).map.resync = s.map.resync := by
  unfold mapSourceLost; (try dsimp only); (repeat' split) <;> simp

@[simp] theorem slotsLostOf_frame (ch : Channel) (l : List Slot) (s : State) :
    (slotsLostOf ch l s).powered = s.powered ∧ (slotsLostOf ch l s).pins = s.pins ∧
    (slotsLostOf ch l s).clock = s.clock ∧ (slotsLostOf ch l s).framer = s.framer ∧
    (slotsLostOf ch l s).tb = s.tb ∧ (slotsLostOf ch l s).station = s.station ∧
    (slotsLostOf ch l s).progress = s.progress ∧ (slotsLostOf ch l s).roster = s.roster ∧
    (slotsLostOf ch l s).rollCall = s.rollCall ∧ (slotsLostOf ch l s).map = s.map ∧
    (slotsLostOf ch l s).inb = s.inb ∧ (slotsLostOf ch l s).mem = s.mem ∧ (slotsLostOf ch l s).trig = s.trig ∧
    (slotsLostOf ch l s).guard = s.guard ∧ (slotsLostOf ch l s).frame = s.frame ∧
    (slotsLostOf ch l s).service = s.service ∧ (slotsLostOf ch l s).setup = s.setup ∧
    (slotsLostOf ch l s).settings = s.settings ∧ (slotsLostOf ch l s).snapshots = s.snapshots ∧
    (slotsLostOf ch l s).pending = s.pending ∧
    (slotsLostOf ch l s).freeDraws = s.freeDraws ∧ (slotsLostOf ch l s).trunk.switch = s.trunk.switch ∧
    (slotsLostOf ch l s).trunk.sending = s.trunk.sending := by
  induction l generalizing s with
  | nil => simp [slotsLostOf]
  | cons x xs ih => simp [slotsLostOf, ih]

@[simp] theorem dropUnowned_frame (ch : Channel) (s : State) :
    (dropUnowned ch s).powered = s.powered ∧ (dropUnowned ch s).pins = s.pins ∧
    (dropUnowned ch s).clock = s.clock ∧ (dropUnowned ch s).framer = s.framer ∧ (dropUnowned ch s).tb = s.tb ∧
    (dropUnowned ch s).station = s.station ∧ (dropUnowned ch s).progress = s.progress ∧
    (dropUnowned ch s).roster = s.roster ∧ (dropUnowned ch s).rollCall = s.rollCall ∧
    (dropUnowned ch s).map = s.map ∧ (dropUnowned ch s).inb = s.inb ∧ (dropUnowned ch s).mem = s.mem ∧
    (dropUnowned ch s).trig = s.trig ∧ (dropUnowned ch s).guard = s.guard ∧
    (dropUnowned ch s).frame = s.frame ∧ (dropUnowned ch s).service = s.service ∧
    (dropUnowned ch s).setup = s.setup ∧ (dropUnowned ch s).settings = s.settings ∧
    (dropUnowned ch s).snapshots = s.snapshots ∧ (dropUnowned ch s).pending = s.pending ∧
    (dropUnowned ch s).freeDraws = s.freeDraws ∧
    (dropUnowned ch s).trunk.switch = s.trunk.switch ∧ (dropUnowned ch s).trunk.sending = s.trunk.sending := by
  unfold dropUnowned; (try dsimp only); (repeat' split) <;> simp

@[simp] theorem endResync_frame (s : State) :
    (endResync s).powered = s.powered ∧ (endResync s).pins = s.pins ∧ (endResync s).clock = s.clock ∧
    (endResync s).trunk = s.trunk ∧ (endResync s).framer = s.framer ∧ (endResync s).tb = s.tb ∧
    (endResync s).station = s.station ∧ (endResync s).progress = s.progress ∧ (endResync s).roster = s.roster ∧
    (endResync s).rollCall = s.rollCall ∧ (endResync s).out = s.out ∧ (endResync s).inb = s.inb ∧
    (endResync s).mem = s.mem ∧ (endResync s).trig = s.trig ∧ (endResync s).guard = s.guard ∧
    (endResync s).frame = s.frame ∧ (endResync s).service = s.service ∧ (endResync s).setup = s.setup ∧
    (endResync s).settings = s.settings ∧ (endResync s).snapshots = s.snapshots ∧
    (endResync s).pending = s.pending ∧
    (endResync s).freeDraws = s.freeDraws ∧ (endResync s).map.entries = s.map.entries ∧
    (endResync s).map.epoch = s.map.epoch := by
  unfold endResync; (try dsimp only); (repeat' split) <;> simp

@[simp] theorem reconcile_frame (s : State) :
    (reconcile s).powered = s.powered ∧ (reconcile s).pins = s.pins ∧ (reconcile s).clock = s.clock ∧
    (reconcile s).framer = s.framer ∧ (reconcile s).tb = s.tb ∧ (reconcile s).station = s.station ∧
    (reconcile s).progress = s.progress ∧ (reconcile s).roster = s.roster ∧
    (reconcile s).rollCall = s.rollCall ∧ (reconcile s).mem = s.mem ∧ (reconcile s).trig = s.trig ∧
    (reconcile s).guard = s.guard ∧ (reconcile s).frame = s.frame ∧ (reconcile s).service = s.service ∧
    (reconcile s).setup = s.setup ∧ (reconcile s).settings = s.settings ∧
    (reconcile s).snapshots = s.snapshots ∧ (reconcile s).pending = s.pending ∧
    (reconcile s).trunk.switch = s.trunk.switch ∧ (reconcile s).trunk.sending = s.trunk.sending ∧
    (reconcile s).map.entries = s.map.entries ∧ (reconcile s).map.epoch = s.map.epoch := by
  unfold reconcile; (try dsimp only); (repeat' split) <;> simp

@[simp] theorem reconciliationTaken_frame (s : State) :
    (reconciliationTaken s).powered = s.powered ∧ (reconciliationTaken s).pins = s.pins ∧
    (reconciliationTaken s).clock = s.clock ∧ (reconciliationTaken s).trunk = s.trunk ∧
    (reconciliationTaken s).framer = s.framer ∧ (reconciliationTaken s).tb = s.tb ∧
    (reconciliationTaken s).station = s.station ∧ (reconciliationTaken s).progress = s.progress ∧
    (reconciliationTaken s).roster = s.roster ∧ (reconciliationTaken s).rollCall = s.rollCall ∧
    (reconciliationTaken s).out = s.out ∧ (reconciliationTaken s).inb = s.inb ∧
    (reconciliationTaken s).mem = s.mem ∧ (reconciliationTaken s).trig = s.trig ∧
    (reconciliationTaken s).guard = s.guard ∧ (reconciliationTaken s).frame = s.frame ∧
    (reconciliationTaken s).service = s.service ∧ (reconciliationTaken s).setup = s.setup ∧
    (reconciliationTaken s).settings = s.settings ∧ (reconciliationTaken s).snapshots = s.snapshots ∧
    (reconciliationTaken s).pending = s.pending ∧
    (reconciliationTaken s).freeDraws = s.freeDraws ∧ (reconciliationTaken s).map.entries = s.map.entries ∧
    (reconciliationTaken s).map.epoch = s.map.epoch := by
  unfold reconciliationTaken; (try dsimp only); (repeat' split) <;> simp

@[simp] theorem startResyncAt_frame (count : Nat) (s : State) :
    (startResyncAt count s).powered = s.powered ∧ (startResyncAt count s).pins = s.pins ∧
    (startResyncAt count s).clock = s.clock ∧ (startResyncAt count s).framer = s.framer ∧
    (startResyncAt count s).tb = s.tb ∧ (startResyncAt count s).roster = s.roster ∧
    (startResyncAt count s).rollCall = s.rollCall ∧ (startResyncAt count s).inb = s.inb ∧
    (startResyncAt count s).mem = s.mem ∧ (startResyncAt count s).trig = s.trig ∧
    (startResyncAt count s).guard = s.guard ∧ (startResyncAt count s).frame = s.frame ∧
    (startResyncAt count s).service = s.service ∧ (startResyncAt count s).setup = s.setup ∧
    (startResyncAt count s).settings = s.settings ∧ (startResyncAt count s).snapshots = s.snapshots ∧
    (startResyncAt count s).pending = s.pending ∧
    (startResyncAt count s).freeDraws = s.freeDraws ∧ (startResyncAt count s).trunk.switch = s.trunk.switch ∧
    (startResyncAt count s).trunk.sending = s.trunk.sending ∧
    (startResyncAt count s).map.entries = s.map.entries ∧ (startResyncAt count s).map.epoch = s.map.epoch := by
  unfold startResyncAt; (try dsimp only); (repeat' split) <;> simp

@[simp] theorem resyncCause_frame (s : State) :
    (resyncCause s).powered = s.powered ∧ (resyncCause s).pins = s.pins ∧ (resyncCause s).clock = s.clock ∧
    (resyncCause s).framer = s.framer ∧ (resyncCause s).tb = s.tb ∧ (resyncCause s).roster = s.roster ∧
    (resyncCause s).rollCall = s.rollCall ∧ (resyncCause s).inb = s.inb ∧ (resyncCause s).mem = s.mem ∧
    (resyncCause s).trig = s.trig ∧ (resyncCause s).guard = s.guard ∧ (resyncCause s).frame = s.frame ∧
    (resyncCause s).service = s.service ∧ (resyncCause s).setup = s.setup ∧
    (resyncCause s).settings = s.settings ∧ (resyncCause s).snapshots = s.snapshots ∧
    (resyncCause s).pending = s.pending ∧
    (resyncCause s).freeDraws = s.freeDraws ∧ (resyncCause s).trunk.switch = s.trunk.switch ∧
    (resyncCause s).trunk.sending = s.trunk.sending ∧ (resyncCause s).map.entries = s.map.entries ∧
    (resyncCause s).map.epoch = s.map.epoch := by
  unfold resyncCause; (try dsimp only); (repeat' split) <;> simp

@[simp] theorem epochTest_frame (epoch : Nat) (s : State) :
    (epochTest epoch s).powered = s.powered ∧ (epochTest epoch s).pins = s.pins ∧
    (epochTest epoch s).clock = s.clock ∧ (epochTest epoch s).framer = s.framer ∧
    (epochTest epoch s).tb = s.tb ∧ (epochTest epoch s).roster = s.roster ∧
    (epochTest epoch s).rollCall = s.rollCall ∧ (epochTest epoch s).inb = s.inb ∧
    (epochTest epoch s).mem = s.mem ∧ (epochTest epoch s).trig = s.trig ∧ (epochTest epoch s).guard = s.guard ∧
    (epochTest epoch s).frame = s.frame ∧ (epochTest epoch s).service = s.service ∧
    (epochTest epoch s).setup = s.setup ∧ (epochTest epoch s).settings = s.settings ∧
    (epochTest epoch s).snapshots = s.snapshots ∧ (epochTest epoch s).pending = s.pending ∧
    (epochTest epoch s).freeDraws = s.freeDraws ∧
    (epochTest epoch s).trunk.switch = s.trunk.switch ∧ (epochTest epoch s).trunk.sending = s.trunk.sending ∧
    (epochTest epoch s).map.entries = s.map.entries ∧ (epochTest epoch s).map.epoch = s.map.epoch := by
  unfold epochTest; (try dsimp only); (repeat' split) <;> simp

@[simp] theorem compareHeld_frame (i : StationId) (held : Nat) (s : State) :
    (compareHeld i held s).powered = s.powered ∧ (compareHeld i held s).pins = s.pins ∧
    (compareHeld i held s).clock = s.clock ∧ (compareHeld i held s).framer = s.framer ∧
    (compareHeld i held s).tb = s.tb ∧ (compareHeld i held s).roster = s.roster ∧
    (compareHeld i held s).rollCall = s.rollCall ∧ (compareHeld i held s).inb = s.inb ∧
    (compareHeld i held s).mem = s.mem ∧ (compareHeld i held s).trig = s.trig ∧
    (compareHeld i held s).guard = s.guard ∧ (compareHeld i held s).frame = s.frame ∧
    (compareHeld i held s).service = s.service ∧ (compareHeld i held s).setup = s.setup ∧
    (compareHeld i held s).settings = s.settings ∧ (compareHeld i held s).snapshots = s.snapshots ∧
    (compareHeld i held s).pending = s.pending ∧
    (compareHeld i held s).freeDraws = s.freeDraws ∧ (compareHeld i held s).trunk.switch = s.trunk.switch ∧
    (compareHeld i held s).trunk.sending = s.trunk.sending ∧
    (compareHeld i held s).map.entries = s.map.entries ∧ (compareHeld i held s).map.epoch = s.map.epoch := by
  unfold compareHeld; (try dsimp only); (repeat' split) <;> simp

@[simp] theorem countStray_frame (s : State) :
    (countStray s).powered = s.powered ∧ (countStray s).pins = s.pins ∧ (countStray s).clock = s.clock ∧
    (countStray s).framer = s.framer ∧ (countStray s).tb = s.tb ∧ (countStray s).roster = s.roster ∧
    (countStray s).rollCall = s.rollCall ∧ (countStray s).inb = s.inb ∧ (countStray s).mem = s.mem ∧
    (countStray s).trig = s.trig ∧ (countStray s).guard = s.guard ∧ (countStray s).frame = s.frame ∧
    (countStray s).service = s.service ∧ (countStray s).setup = s.setup ∧
    (countStray s).settings = s.settings ∧ (countStray s).snapshots = s.snapshots ∧
    (countStray s).pending = s.pending ∧
    (countStray s).freeDraws = s.freeDraws ∧ (countStray s).trunk.switch = s.trunk.switch ∧
    (countStray s).trunk.sending = s.trunk.sending ∧ (countStray s).map.entries = s.map.entries ∧
    (countStray s).map.epoch = s.map.epoch := by
  unfold countStray; (try dsimp only); (repeat' split) <;> simp

@[simp] theorem applyClaim_frame (c : Claim) (s : State) :
    (applyClaim c s).2.powered = s.powered ∧ (applyClaim c s).2.pins = s.pins ∧
    (applyClaim c s).2.clock = s.clock ∧ (applyClaim c s).2.trunk = s.trunk ∧
    (applyClaim c s).2.framer = s.framer ∧ (applyClaim c s).2.tb = s.tb ∧
    (applyClaim c s).2.station = s.station ∧ (applyClaim c s).2.progress = s.progress ∧
    (applyClaim c s).2.roster = s.roster ∧ (applyClaim c s).2.rollCall = s.rollCall ∧
    (applyClaim c s).2.out = s.out ∧ (applyClaim c s).2.mem = s.mem ∧ (applyClaim c s).2.trig = s.trig ∧
    (applyClaim c s).2.guard = s.guard ∧ (applyClaim c s).2.frame = s.frame ∧
    (applyClaim c s).2.service = s.service ∧ (applyClaim c s).2.setup = s.setup ∧
    (applyClaim c s).2.settings = s.settings ∧ (applyClaim c s).2.snapshots = s.snapshots ∧
    (applyClaim c s).2.pending = s.pending ∧ (applyClaim c s).2.map.resync = s.map.resync := by
  unfold applyClaim; (try dsimp only); (repeat' split) <;> simp

@[simp] theorem resyncMark_frame (m : Mark) (s : State) :
    (resyncMark m s).powered = s.powered ∧ (resyncMark m s).pins = s.pins ∧ (resyncMark m s).clock = s.clock ∧
    (resyncMark m s).framer = s.framer ∧ (resyncMark m s).tb = s.tb ∧ (resyncMark m s).roster = s.roster ∧
    (resyncMark m s).rollCall = s.rollCall ∧ (resyncMark m s).mem = s.mem ∧ (resyncMark m s).trig = s.trig ∧
    (resyncMark m s).guard = s.guard ∧ (resyncMark m s).frame = s.frame ∧ (resyncMark m s).service = s.service ∧
    (resyncMark m s).setup = s.setup ∧ (resyncMark m s).settings = s.settings ∧
    (resyncMark m s).snapshots = s.snapshots ∧ (resyncMark m s).pending = s.pending ∧
    (resyncMark m s).trunk.switch = s.trunk.switch ∧ (resyncMark m s).trunk.sending = s.trunk.sending := by
  unfold resyncMark; (try dsimp only); (repeat' split) <;> simp

@[simp] theorem learnPage_frame (m : Mark) (s : State) :
    (learnPage m s).powered = s.powered ∧ (learnPage m s).pins = s.pins ∧ (learnPage m s).clock = s.clock ∧
    (learnPage m s).trunk = s.trunk ∧ (learnPage m s).framer = s.framer ∧ (learnPage m s).tb = s.tb ∧
    (learnPage m s).station = s.station ∧ (learnPage m s).progress = s.progress ∧
    (learnPage m s).roster = s.roster ∧ (learnPage m s).rollCall = s.rollCall ∧ (learnPage m s).out = s.out ∧
    (learnPage m s).inb = s.inb ∧ (learnPage m s).mem = s.mem ∧ (learnPage m s).trig = s.trig ∧
    (learnPage m s).guard = s.guard ∧ (learnPage m s).frame = s.frame ∧ (learnPage m s).service = s.service ∧
    (learnPage m s).setup = s.setup ∧ (learnPage m s).settings = s.settings ∧
    (learnPage m s).snapshots = s.snapshots ∧ (learnPage m s).flags = s.flags ∧
    (learnPage m s).pending = s.pending ∧
    (learnPage m s).freeDraws = s.freeDraws ∧ (learnPage m s).map.resync = s.map.resync ∧
    (learnPage m s).map.epoch = s.map.epoch := by
  unfold learnPage; (try dsimp only); (repeat' split) <;> simp

@[simp] theorem startLearning_frame (m : Mark) (s : State) :
    (startLearning m s).powered = s.powered ∧ (startLearning m s).pins = s.pins ∧
    (startLearning m s).clock = s.clock ∧ (startLearning m s).trunk = s.trunk ∧
    (startLearning m s).framer = s.framer ∧ (startLearning m s).tb = s.tb ∧
    (startLearning m s).station = s.station ∧ (startLearning m s).progress = s.progress ∧
    (startLearning m s).roster = s.roster ∧ (startLearning m s).rollCall = s.rollCall ∧
    (startLearning m s).out = s.out ∧ (startLearning m s).inb = s.inb ∧ (startLearning m s).mem = s.mem ∧
    (startLearning m s).trig = s.trig ∧ (startLearning m s).guard = s.guard ∧
    (startLearning m s).frame = s.frame ∧ (startLearning m s).service = s.service ∧
    (startLearning m s).setup = s.setup ∧ (startLearning m s).settings = s.settings ∧
    (startLearning m s).snapshots = s.snapshots ∧ (startLearning m s).flags = s.flags ∧
    (startLearning m s).pending = s.pending ∧
    (startLearning m s).freeDraws = s.freeDraws := by
  unfold startLearning; (try dsimp only); (repeat' split) <;> simp

@[simp] theorem enterLearning_frame (m : Mark) (s : State) :
    (enterLearning m s).powered = s.powered ∧ (enterLearning m s).pins = s.pins ∧
    (enterLearning m s).clock = s.clock ∧ (enterLearning m s).trunk = s.trunk ∧
    (enterLearning m s).framer = s.framer ∧ (enterLearning m s).roster = s.roster ∧
    (enterLearning m s).rollCall = s.rollCall ∧ (enterLearning m s).out = s.out ∧
    (enterLearning m s).inb = s.inb ∧ (enterLearning m s).mem = s.mem ∧ (enterLearning m s).trig = s.trig ∧
    (enterLearning m s).guard = s.guard ∧ (enterLearning m s).frame = s.frame ∧
    (enterLearning m s).service = s.service ∧ (enterLearning m s).setup = s.setup ∧
    (enterLearning m s).settings = s.settings ∧ (enterLearning m s).snapshots = s.snapshots ∧
    (enterLearning m s).pending = s.pending ∧
    (enterLearning m s).freeDraws = s.freeDraws ∧ (enterLearning m s).tb.role = s.tb.role ∧
    (enterLearning m s).tb.designated = s.tb.designated ∧ (enterLearning m s).tb.election = s.tb.election ∧
    (enterLearning m s).tb.period = s.tb.period ∧ (enterLearning m s).tb.lock = s.tb.lock ∧
    (enterLearning m s).tb.missed = s.tb.missed ∧ (enterLearning m s).tb.expected = s.tb.expected ∧
    (enterLearning m s).tb.markDue = s.tb.markDue ∧ (enterLearning m s).tb.orphan = s.tb.orphan := by
  unfold enterLearning; (try dsimp only); (repeat' split) <;> simp

@[simp] theorem learnFailure_frame (m : Mark) (s : State) :
    (learnFailure m s).powered = s.powered ∧ (learnFailure m s).pins = s.pins ∧
    (learnFailure m s).clock = s.clock ∧ (learnFailure m s).trunk = s.trunk ∧
    (learnFailure m s).framer = s.framer ∧ (learnFailure m s).rollCall = s.rollCall ∧
    (learnFailure m s).out = s.out ∧ (learnFailure m s).mem = s.mem ∧ (learnFailure m s).guard = s.guard ∧
    (learnFailure m s).frame = s.frame ∧ (learnFailure m s).service = s.service ∧
    (learnFailure m s).setup = s.setup ∧ (learnFailure m s).settings = s.settings ∧
    (learnFailure m s).snapshots = s.snapshots ∧ (learnFailure m s).pending = s.pending ∧
    (learnFailure m s).freeDraws = s.freeDraws ∧
    (learnFailure m s).tb.role = s.tb.role ∧ (learnFailure m s).tb.designated = s.tb.designated ∧
    (learnFailure m s).tb.election = s.tb.election ∧ (learnFailure m s).tb.period = s.tb.period ∧
    (learnFailure m s).tb.lock = s.tb.lock ∧ (learnFailure m s).tb.missed = s.tb.missed ∧
    (learnFailure m s).tb.expected = s.tb.expected ∧ (learnFailure m s).tb.markDue = s.tb.markDue ∧
    (learnFailure m s).tb.orphan = s.tb.orphan ∧
    (learnFailure m s).trig.pendingTrigger = s.trig.pendingTrigger ∧
    (learnFailure m s).trig.settings = s.trig.settings ∧ (learnFailure m s).trig.filtered = s.trig.filtered := by
  unfold learnFailure; (try dsimp only); (repeat' split) <;> simp

@[simp] theorem learnMark_frame (m : Mark) (s : State) :
    (learnMark m s).powered = s.powered ∧ (learnMark m s).pins = s.pins ∧ (learnMark m s).clock = s.clock ∧
    (learnMark m s).trunk = s.trunk ∧ (learnMark m s).framer = s.framer ∧
    (learnMark m s).rollCall = s.rollCall ∧ (learnMark m s).out = s.out ∧ (learnMark m s).mem = s.mem ∧
    (learnMark m s).guard = s.guard ∧ (learnMark m s).frame = s.frame ∧ (learnMark m s).service = s.service ∧
    (learnMark m s).setup = s.setup ∧ (learnMark m s).settings = s.settings ∧
    (learnMark m s).snapshots = s.snapshots ∧ (learnMark m s).pending = s.pending ∧
    (learnMark m s).freeDraws = s.freeDraws ∧
    (learnMark m s).tb.role = s.tb.role ∧ (learnMark m s).tb.designated = s.tb.designated ∧
    (learnMark m s).tb.election = s.tb.election ∧ (learnMark m s).tb.period = s.tb.period ∧
    (learnMark m s).tb.lock = s.tb.lock ∧ (learnMark m s).tb.missed = s.tb.missed ∧
    (learnMark m s).tb.expected = s.tb.expected ∧ (learnMark m s).tb.markDue = s.tb.markDue ∧
    (learnMark m s).tb.orphan = s.tb.orphan ∧ (learnMark m s).trig.pendingTrigger = s.trig.pendingTrigger ∧
    (learnMark m s).trig.settings = s.trig.settings ∧ (learnMark m s).trig.filtered = s.trig.filtered := by
  unfold learnMark; (try dsimp only); (repeat' split) <;> simp

@[simp] theorem mapTakesMark_frame (m : Mark) (s : State) :
    (mapTakesMark m s).powered = s.powered ∧ (mapTakesMark m s).pins = s.pins ∧
    (mapTakesMark m s).clock = s.clock ∧ (mapTakesMark m s).framer = s.framer ∧
    (mapTakesMark m s).rollCall = s.rollCall ∧ (mapTakesMark m s).mem = s.mem ∧
    (mapTakesMark m s).guard = s.guard ∧ (mapTakesMark m s).frame = s.frame ∧
    (mapTakesMark m s).service = s.service ∧ (mapTakesMark m s).setup = s.setup ∧
    (mapTakesMark m s).settings = s.settings ∧ (mapTakesMark m s).snapshots = s.snapshots ∧
    (mapTakesMark m s).pending = s.pending ∧ (mapTakesMark m s).trunk.switch = s.trunk.switch ∧
    (mapTakesMark m s).trunk.sending = s.trunk.sending ∧ (mapTakesMark m s).tb.role = s.tb.role ∧
    (mapTakesMark m s).tb.designated = s.tb.designated ∧ (mapTakesMark m s).tb.election = s.tb.election ∧
    (mapTakesMark m s).tb.period = s.tb.period ∧ (mapTakesMark m s).tb.lock = s.tb.lock ∧
    (mapTakesMark m s).tb.missed = s.tb.missed ∧ (mapTakesMark m s).tb.expected = s.tb.expected ∧
    (mapTakesMark m s).tb.markDue = s.tb.markDue ∧ (mapTakesMark m s).tb.orphan = s.tb.orphan ∧
    (mapTakesMark m s).trig.pendingTrigger = s.trig.pendingTrigger ∧
    (mapTakesMark m s).trig.settings = s.trig.settings ∧ (mapTakesMark m s).trig.filtered = s.trig.filtered := by
  unfold mapTakesMark; (try dsimp only); (repeat' split) <;> simp

@[simp] theorem setGuard_frame (st : GuardState) (s : State) :
    (setGuard st s).powered = s.powered ∧ (setGuard st s).pins = s.pins ∧ (setGuard st s).clock = s.clock ∧
    (setGuard st s).trunk = s.trunk ∧ (setGuard st s).framer = s.framer ∧ (setGuard st s).tb = s.tb ∧
    (setGuard st s).station = s.station ∧ (setGuard st s).progress = s.progress ∧
    (setGuard st s).roster = s.roster ∧ (setGuard st s).rollCall = s.rollCall ∧ (setGuard st s).map = s.map ∧
    (setGuard st s).out = s.out ∧ (setGuard st s).inb = s.inb ∧ (setGuard st s).mem = s.mem ∧
    (setGuard st s).trig = s.trig ∧ (setGuard st s).frame = s.frame ∧ (setGuard st s).service = s.service ∧
    (setGuard st s).setup = s.setup ∧ (setGuard st s).settings = s.settings ∧
    (setGuard st s).snapshots = s.snapshots ∧ (setGuard st s).pending = s.pending ∧
    (setGuard st s).freeDraws = s.freeDraws ∧
    (setGuard st s).guard.interval = s.guard.interval ∧ (setGuard st s).guard.thresholds = s.guard.thresholds := by
  unfold setGuard; (try dsimp only); (repeat' split) <;> simp

@[simp] theorem stuckAtOnce_frame (s : State) :
    (stuckAtOnce s).powered = s.powered ∧ (stuckAtOnce s).pins = s.pins ∧ (stuckAtOnce s).clock = s.clock ∧
    (stuckAtOnce s).trunk = s.trunk ∧ (stuckAtOnce s).framer = s.framer ∧ (stuckAtOnce s).tb = s.tb ∧
    (stuckAtOnce s).station = s.station ∧ (stuckAtOnce s).progress = s.progress ∧
    (stuckAtOnce s).roster = s.roster ∧ (stuckAtOnce s).rollCall = s.rollCall ∧ (stuckAtOnce s).map = s.map ∧
    (stuckAtOnce s).out = s.out ∧ (stuckAtOnce s).inb = s.inb ∧ (stuckAtOnce s).mem = s.mem ∧
    (stuckAtOnce s).trig = s.trig ∧ (stuckAtOnce s).frame = s.frame ∧ (stuckAtOnce s).service = s.service ∧
    (stuckAtOnce s).setup = s.setup ∧ (stuckAtOnce s).settings = s.settings ∧
    (stuckAtOnce s).snapshots = s.snapshots ∧ (stuckAtOnce s).pending = s.pending ∧
    (stuckAtOnce s).freeDraws = s.freeDraws ∧
    (stuckAtOnce s).guard.interval = s.guard.interval ∧ (stuckAtOnce s).guard.thresholds = s.guard.thresholds := by
  unfold stuckAtOnce; (try dsimp only); (repeat' split) <;> simp

@[simp] theorem report_frame (r : FaultReport) (s : State) :
    (report r s).powered = s.powered ∧ (report r s).pins = s.pins ∧ (report r s).clock = s.clock ∧
    (report r s).trunk = s.trunk ∧ (report r s).framer = s.framer ∧ (report r s).tb = s.tb ∧
    (report r s).station = s.station ∧ (report r s).progress = s.progress ∧ (report r s).roster = s.roster ∧
    (report r s).rollCall = s.rollCall ∧ (report r s).map = s.map ∧ (report r s).out = s.out ∧
    (report r s).inb = s.inb ∧ (report r s).mem = s.mem ∧ (report r s).trig = s.trig ∧
    (report r s).frame = s.frame ∧ (report r s).service = s.service ∧ (report r s).setup = s.setup ∧
    (report r s).settings = s.settings ∧ (report r s).snapshots = s.snapshots ∧
    (report r s).pending = s.pending ∧
    (report r s).freeDraws = s.freeDraws ∧ (report r s).guard.interval = s.guard.interval ∧
    (report r s).guard.thresholds = s.guard.thresholds := by
  unfold report; (try dsimp only); (repeat' split) <;> simp

@[simp] theorem noticeJoinLeave_frame (isLeave : Bool) (s : State) :
    (noticeJoinLeave isLeave s).powered = s.powered ∧ (noticeJoinLeave isLeave s).pins = s.pins ∧
    (noticeJoinLeave isLeave s).clock = s.clock ∧ (noticeJoinLeave isLeave s).trunk = s.trunk ∧
    (noticeJoinLeave isLeave s).framer = s.framer ∧ (noticeJoinLeave isLeave s).tb = s.tb ∧
    (noticeJoinLeave isLeave s).station = s.station ∧ (noticeJoinLeave isLeave s).progress = s.progress ∧
    (noticeJoinLeave isLeave s).roster = s.roster ∧ (noticeJoinLeave isLeave s).rollCall = s.rollCall ∧
    (noticeJoinLeave isLeave s).map = s.map ∧ (noticeJoinLeave isLeave s).out = s.out ∧
    (noticeJoinLeave isLeave s).inb = s.inb ∧ (noticeJoinLeave isLeave s).mem = s.mem ∧
    (noticeJoinLeave isLeave s).trig = s.trig ∧ (noticeJoinLeave isLeave s).frame = s.frame ∧
    (noticeJoinLeave isLeave s).service = s.service ∧ (noticeJoinLeave isLeave s).setup = s.setup ∧
    (noticeJoinLeave isLeave s).settings = s.settings ∧ (noticeJoinLeave isLeave s).snapshots = s.snapshots ∧
    (noticeJoinLeave isLeave s).flags = s.flags ∧ (noticeJoinLeave isLeave s).pending = s.pending ∧
    (noticeJoinLeave isLeave s).freeDraws = s.freeDraws ∧
    (noticeJoinLeave isLeave s).guard.state = s.guard.state ∧
    (noticeJoinLeave isLeave s).guard.interval = s.guard.interval ∧
    (noticeJoinLeave isLeave s).guard.thresholds = s.guard.thresholds := by
  unfold noticeJoinLeave; (try dsimp only); (repeat' split) <;> simp

@[simp] theorem beginInterval_frame (i : Interval) (s : State) :
    (beginInterval i s).powered = s.powered ∧ (beginInterval i s).pins = s.pins ∧
    (beginInterval i s).clock = s.clock ∧ (beginInterval i s).trunk = s.trunk ∧
    (beginInterval i s).framer = s.framer ∧ (beginInterval i s).tb = s.tb ∧
    (beginInterval i s).station = s.station ∧ (beginInterval i s).progress = s.progress ∧
    (beginInterval i s).roster = s.roster ∧ (beginInterval i s).rollCall = s.rollCall ∧
    (beginInterval i s).map = s.map ∧ (beginInterval i s).out = s.out ∧ (beginInterval i s).inb = s.inb ∧
    (beginInterval i s).mem = s.mem ∧ (beginInterval i s).trig = s.trig ∧ (beginInterval i s).frame = s.frame ∧
    (beginInterval i s).service = s.service ∧ (beginInterval i s).setup = s.setup ∧
    (beginInterval i s).settings = s.settings ∧ (beginInterval i s).snapshots = s.snapshots ∧
    (beginInterval i s).flags = s.flags ∧ (beginInterval i s).pending = s.pending ∧
    (beginInterval i s).freeDraws = s.freeDraws ∧
    (beginInterval i s).guard.state = s.guard.state ∧ (beginInterval i s).guard.thresholds = s.guard.thresholds := by
  unfold beginInterval; (try dsimp only); (repeat' split) <;> simp

@[simp] theorem cutInInterval_frame (s : State) :
    (cutInInterval s).powered = s.powered ∧ (cutInInterval s).pins = s.pins ∧
    (cutInInterval s).clock = s.clock ∧ (cutInInterval s).trunk = s.trunk ∧
    (cutInInterval s).framer = s.framer ∧ (cutInInterval s).tb = s.tb ∧ (cutInInterval s).station = s.station ∧
    (cutInInterval s).progress = s.progress ∧ (cutInInterval s).roster = s.roster ∧
    (cutInInterval s).rollCall = s.rollCall ∧ (cutInInterval s).map = s.map ∧ (cutInInterval s).out = s.out ∧
    (cutInInterval s).inb = s.inb ∧ (cutInInterval s).mem = s.mem ∧ (cutInInterval s).trig = s.trig ∧
    (cutInInterval s).frame = s.frame ∧ (cutInInterval s).service = s.service ∧
    (cutInInterval s).setup = s.setup ∧ (cutInInterval s).settings = s.settings ∧
    (cutInInterval s).snapshots = s.snapshots ∧ (cutInInterval s).flags = s.flags ∧
    (cutInInterval s).pending = s.pending ∧
    (cutInInterval s).freeDraws = s.freeDraws ∧ (cutInInterval s).guard.state = s.guard.state ∧
    (cutInInterval s).guard.thresholds = s.guard.thresholds := by
  unfold cutInInterval; (try dsimp only); (repeat' split) <;> simp

@[simp] theorem cutOutInterval_frame (s : State) :
    (cutOutInterval s).powered = s.powered ∧ (cutOutInterval s).pins = s.pins ∧
    (cutOutInterval s).clock = s.clock ∧ (cutOutInterval s).trunk = s.trunk ∧
    (cutOutInterval s).framer = s.framer ∧ (cutOutInterval s).tb = s.tb ∧
    (cutOutInterval s).station = s.station ∧ (cutOutInterval s).progress = s.progress ∧
    (cutOutInterval s).roster = s.roster ∧ (cutOutInterval s).rollCall = s.rollCall ∧
    (cutOutInterval s).map = s.map ∧ (cutOutInterval s).out = s.out ∧ (cutOutInterval s).inb = s.inb ∧
    (cutOutInterval s).mem = s.mem ∧ (cutOutInterval s).trig = s.trig ∧ (cutOutInterval s).frame = s.frame ∧
    (cutOutInterval s).service = s.service ∧ (cutOutInterval s).setup = s.setup ∧
    (cutOutInterval s).settings = s.settings ∧ (cutOutInterval s).snapshots = s.snapshots ∧
    (cutOutInterval s).flags = s.flags ∧ (cutOutInterval s).pending = s.pending ∧
    (cutOutInterval s).freeDraws = s.freeDraws ∧
    (cutOutInterval s).guard.state = s.guard.state ∧ (cutOutInterval s).guard.thresholds = s.guard.thresholds := by
  unfold cutOutInterval; (try dsimp only); (repeat' split) <;> simp

@[simp] theorem carryInterval_frame (i : Interval) (s : State) :
    (carryInterval i s).powered = s.powered ∧ (carryInterval i s).pins = s.pins ∧
    (carryInterval i s).clock = s.clock ∧ (carryInterval i s).trunk = s.trunk ∧
    (carryInterval i s).framer = s.framer ∧ (carryInterval i s).tb = s.tb ∧
    (carryInterval i s).station = s.station ∧ (carryInterval i s).progress = s.progress ∧
    (carryInterval i s).roster = s.roster ∧ (carryInterval i s).rollCall = s.rollCall ∧
    (carryInterval i s).map = s.map ∧ (carryInterval i s).out = s.out ∧ (carryInterval i s).inb = s.inb ∧
    (carryInterval i s).mem = s.mem ∧ (carryInterval i s).trig = s.trig ∧ (carryInterval i s).frame = s.frame ∧
    (carryInterval i s).service = s.service ∧ (carryInterval i s).setup = s.setup ∧
    (carryInterval i s).settings = s.settings ∧ (carryInterval i s).snapshots = s.snapshots ∧
    (carryInterval i s).flags = s.flags ∧ (carryInterval i s).pending = s.pending ∧
    (carryInterval i s).freeDraws = s.freeDraws ∧
    (carryInterval i s).guard.state = s.guard.state ∧ (carryInterval i s).guard.thresholds = s.guard.thresholds := by
  unfold carryInterval; (try dsimp only); (repeat' split) <;> simp

@[simp] theorem judge_frame (k : IntervalKind) (s : State) :
    (judge k s).powered = s.powered ∧ (judge k s).pins = s.pins ∧ (judge k s).clock = s.clock ∧
    (judge k s).trunk = s.trunk ∧ (judge k s).framer = s.framer ∧ (judge k s).roster = s.roster ∧
    (judge k s).rollCall = s.rollCall ∧ (judge k s).inb = s.inb ∧ (judge k s).mem = s.mem ∧
    (judge k s).trig = s.trig ∧ (judge k s).frame = s.frame ∧ (judge k s).service = s.service ∧
    (judge k s).setup = s.setup ∧ (judge k s).settings = s.settings ∧ (judge k s).snapshots = s.snapshots ∧
    (judge k s).pending = s.pending ∧
    (judge k s).freeDraws = s.freeDraws ∧ (judge k s).tb.role = s.tb.role ∧
    (judge k s).tb.designated = s.tb.designated ∧ (judge k s).tb.election = s.tb.election ∧
    (judge k s).tb.period = s.tb.period ∧ (judge k s).guard.interval = s.guard.interval ∧
    (judge k s).guard.thresholds = s.guard.thresholds ∧ (judge k s).map.resync = s.map.resync ∧
    (judge k s).map.epoch = s.map.epoch ∧ (judge k s).tb.lock = s.tb.lock ∧
    (judge k s).tb.missed = s.tb.missed ∧ (judge k s).tb.expected = s.tb.expected ∧
    (judge k s).tb.markDue = s.tb.markDue ∧ (judge k s).tb.orphan = s.tb.orphan := by
  unfold judge; (try dsimp only); (repeat' split) <;> simp

@[simp] theorem endInterval_frame (k : IntervalKind) (next : State → Interval) (s : State) :
    (endInterval k next s).powered = s.powered ∧ (endInterval k next s).pins = s.pins ∧
    (endInterval k next s).clock = s.clock ∧ (endInterval k next s).trunk = s.trunk ∧
    (endInterval k next s).framer = s.framer ∧ (endInterval k next s).roster = s.roster ∧
    (endInterval k next s).rollCall = s.rollCall ∧ (endInterval k next s).inb = s.inb ∧
    (endInterval k next s).mem = s.mem ∧ (endInterval k next s).trig = s.trig ∧
    (endInterval k next s).frame = s.frame ∧ (endInterval k next s).service = s.service ∧
    (endInterval k next s).setup = s.setup ∧ (endInterval k next s).settings = s.settings ∧
    (endInterval k next s).snapshots = s.snapshots ∧ (endInterval k next s).pending = s.pending ∧
    (endInterval k next s).freeDraws = s.freeDraws ∧
    (endInterval k next s).tb.role = s.tb.role ∧ (endInterval k next s).tb.designated = s.tb.designated ∧
    (endInterval k next s).tb.election = s.tb.election ∧ (endInterval k next s).tb.period = s.tb.period ∧
    (endInterval k next s).guard.thresholds = s.guard.thresholds ∧
    (endInterval k next s).map.resync = s.map.resync ∧ (endInterval k next s).map.epoch = s.map.epoch ∧
    (endInterval k next s).tb.lock = s.tb.lock ∧ (endInterval k next s).tb.missed = s.tb.missed ∧
    (endInterval k next s).tb.expected = s.tb.expected ∧ (endInterval k next s).tb.markDue = s.tb.markDue ∧
    (endInterval k next s).tb.orphan = s.tb.orphan := by
  unfold endInterval; (try dsimp only); (repeat' split) <;> simp

@[simp] theorem guardBoundary_frame (s : State) :
    (guardBoundary s).powered = s.powered ∧ (guardBoundary s).pins = s.pins ∧
    (guardBoundary s).clock = s.clock ∧ (guardBoundary s).trunk = s.trunk ∧
    (guardBoundary s).framer = s.framer ∧ (guardBoundary s).roster = s.roster ∧
    (guardBoundary s).rollCall = s.rollCall ∧ (guardBoundary s).inb = s.inb ∧ (guardBoundary s).mem = s.mem ∧
    (guardBoundary s).trig = s.trig ∧ (guardBoundary s).frame = s.frame ∧
    (guardBoundary s).service = s.service ∧ (guardBoundary s).setup = s.setup ∧
    (guardBoundary s).settings = s.settings ∧ (guardBoundary s).snapshots = s.snapshots ∧
    (guardBoundary s).pending = s.pending ∧
    (guardBoundary s).freeDraws = s.freeDraws ∧ (guardBoundary s).tb.role = s.tb.role ∧
    (guardBoundary s).tb.designated = s.tb.designated ∧ (guardBoundary s).tb.election = s.tb.election ∧
    (guardBoundary s).tb.period = s.tb.period ∧ (guardBoundary s).guard.thresholds = s.guard.thresholds ∧
    (guardBoundary s).map.resync = s.map.resync ∧ (guardBoundary s).map.epoch = s.map.epoch ∧
    (guardBoundary s).tb.lock = s.tb.lock ∧ (guardBoundary s).tb.missed = s.tb.missed ∧
    (guardBoundary s).tb.expected = s.tb.expected ∧ (guardBoundary s).tb.markDue = s.tb.markDue ∧
    (guardBoundary s).tb.orphan = s.tb.orphan := by
  unfold guardBoundary; (try dsimp only); (repeat' split) <;> simp

@[simp] theorem lowerTroubleHold_frame (s : State) :
    (lowerTroubleHold s).powered = s.powered ∧ (lowerTroubleHold s).pins = s.pins ∧
    (lowerTroubleHold s).clock = s.clock ∧ (lowerTroubleHold s).trunk = s.trunk ∧
    (lowerTroubleHold s).framer = s.framer ∧ (lowerTroubleHold s).tb = s.tb ∧
    (lowerTroubleHold s).station = s.station ∧ (lowerTroubleHold s).progress = s.progress ∧
    (lowerTroubleHold s).roster = s.roster ∧ (lowerTroubleHold s).rollCall = s.rollCall ∧
    (lowerTroubleHold s).map = s.map ∧ (lowerTroubleHold s).out = s.out ∧ (lowerTroubleHold s).inb = s.inb ∧
    (lowerTroubleHold s).mem = s.mem ∧ (lowerTroubleHold s).trig = s.trig ∧
    (lowerTroubleHold s).frame = s.frame ∧ (lowerTroubleHold s).service = s.service ∧
    (lowerTroubleHold s).setup = s.setup ∧ (lowerTroubleHold s).settings = s.settings ∧
    (lowerTroubleHold s).snapshots = s.snapshots ∧ (lowerTroubleHold s).flags = s.flags ∧
    (lowerTroubleHold s).pending = s.pending ∧
    (lowerTroubleHold s).freeDraws = s.freeDraws ∧ (lowerTroubleHold s).guard.state = s.guard.state ∧
    (lowerTroubleHold s).guard.interval = s.guard.interval ∧
    (lowerTroubleHold s).guard.thresholds = s.guard.thresholds := by
  unfold lowerTroubleHold; (try dsimp only); (repeat' split) <;> simp

@[simp] theorem setLock_frame (l : LockState) (s : State) :
    (setLock l s).powered = s.powered ∧ (setLock l s).pins = s.pins ∧ (setLock l s).clock = s.clock ∧
    (setLock l s).trunk = s.trunk ∧ (setLock l s).framer = s.framer ∧ (setLock l s).station = s.station ∧
    (setLock l s).progress = s.progress ∧ (setLock l s).roster = s.roster ∧
    (setLock l s).rollCall = s.rollCall ∧ (setLock l s).map = s.map ∧ (setLock l s).out = s.out ∧
    (setLock l s).inb = s.inb ∧ (setLock l s).mem = s.mem ∧ (setLock l s).trig = s.trig ∧
    (setLock l s).guard = s.guard ∧ (setLock l s).frame = s.frame ∧ (setLock l s).service = s.service ∧
    (setLock l s).setup = s.setup ∧ (setLock l s).settings = s.settings ∧
    (setLock l s).snapshots = s.snapshots ∧ (setLock l s).flags = s.flags ∧ (setLock l s).pending = s.pending ∧
    (setLock l s).freeDraws = s.freeDraws ∧
    (setLock l s).tb.role = s.tb.role ∧ (setLock l s).tb.designated = s.tb.designated ∧
    (setLock l s).tb.election = s.tb.election ∧ (setLock l s).tb.period = s.tb.period ∧
    (setLock l s).tb.listen = s.tb.listen ∧ (setLock l s).tb.missed = s.tb.missed ∧
    (setLock l s).tb.expected = s.tb.expected ∧ (setLock l s).tb.markDue = s.tb.markDue ∧
    (setLock l s).tb.orphan = s.tb.orphan := by
  unfold setLock; (try dsimp only); (repeat' split) <;> simp

@[simp] theorem referenceAppears_frame (s : State) :
    (referenceAppears s).powered = s.powered ∧ (referenceAppears s).pins = s.pins ∧
    (referenceAppears s).clock = s.clock ∧ (referenceAppears s).trunk = s.trunk ∧
    (referenceAppears s).framer = s.framer ∧ (referenceAppears s).station = s.station ∧
    (referenceAppears s).progress = s.progress ∧ (referenceAppears s).roster = s.roster ∧
    (referenceAppears s).rollCall = s.rollCall ∧ (referenceAppears s).map = s.map ∧
    (referenceAppears s).out = s.out ∧ (referenceAppears s).inb = s.inb ∧ (referenceAppears s).mem = s.mem ∧
    (referenceAppears s).trig = s.trig ∧ (referenceAppears s).guard = s.guard ∧
    (referenceAppears s).frame = s.frame ∧ (referenceAppears s).service = s.service ∧
    (referenceAppears s).setup = s.setup ∧ (referenceAppears s).settings = s.settings ∧
    (referenceAppears s).snapshots = s.snapshots ∧ (referenceAppears s).flags = s.flags ∧
    (referenceAppears s).pending = s.pending ∧
    (referenceAppears s).freeDraws = s.freeDraws ∧ (referenceAppears s).tb.role = s.tb.role ∧
    (referenceAppears s).tb.designated = s.tb.designated ∧ (referenceAppears s).tb.election = s.tb.election ∧
    (referenceAppears s).tb.period = s.tb.period ∧ (referenceAppears s).tb.listen = s.tb.listen ∧
    (referenceAppears s).tb.missed = s.tb.missed ∧ (referenceAppears s).tb.expected = s.tb.expected ∧
    (referenceAppears s).tb.markDue = s.tb.markDue ∧ (referenceAppears s).tb.orphan = s.tb.orphan := by
  unfold referenceAppears; (try dsimp only); (repeat' split) <;> simp

@[simp] theorem referenceLost_frame (s : State) :
    (referenceLost s).powered = s.powered ∧ (referenceLost s).pins = s.pins ∧
    (referenceLost s).clock = s.clock ∧ (referenceLost s).trunk = s.trunk ∧
    (referenceLost s).framer = s.framer ∧ (referenceLost s).station = s.station ∧
    (referenceLost s).progress = s.progress ∧ (referenceLost s).roster = s.roster ∧
    (referenceLost s).rollCall = s.rollCall ∧ (referenceLost s).map = s.map ∧ (referenceLost s).out = s.out ∧
    (referenceLost s).inb = s.inb ∧ (referenceLost s).mem = s.mem ∧ (referenceLost s).trig = s.trig ∧
    (referenceLost s).guard = s.guard ∧ (referenceLost s).frame = s.frame ∧
    (referenceLost s).service = s.service ∧ (referenceLost s).setup = s.setup ∧
    (referenceLost s).settings = s.settings ∧ (referenceLost s).snapshots = s.snapshots ∧
    (referenceLost s).flags = s.flags ∧ (referenceLost s).pending = s.pending ∧
    (referenceLost s).freeDraws = s.freeDraws ∧
    (referenceLost s).tb.role = s.tb.role ∧ (referenceLost s).tb.designated = s.tb.designated ∧
    (referenceLost s).tb.election = s.tb.election ∧ (referenceLost s).tb.period = s.tb.period ∧
    (referenceLost s).tb.listen = s.tb.listen ∧ (referenceLost s).tb.missed = s.tb.missed ∧
    (referenceLost s).tb.expected = s.tb.expected ∧ (referenceLost s).tb.markDue = s.tb.markDue ∧
    (referenceLost s).tb.orphan = s.tb.orphan := by
  unfold referenceLost; (try dsimp only); (repeat' split) <;> simp

@[simp] theorem inputChanged_frame (s : State) :
    (inputChanged s).powered = s.powered ∧ (inputChanged s).pins = s.pins ∧ (inputChanged s).clock = s.clock ∧
    (inputChanged s).trunk = s.trunk ∧ (inputChanged s).framer = s.framer ∧
    (inputChanged s).station = s.station ∧ (inputChanged s).progress = s.progress ∧
    (inputChanged s).roster = s.roster ∧ (inputChanged s).rollCall = s.rollCall ∧
    (inputChanged s).map = s.map ∧ (inputChanged s).out = s.out ∧ (inputChanged s).inb = s.inb ∧
    (inputChanged s).mem = s.mem ∧ (inputChanged s).trig = s.trig ∧ (inputChanged s).guard = s.guard ∧
    (inputChanged s).frame = s.frame ∧ (inputChanged s).service = s.service ∧
    (inputChanged s).setup = s.setup ∧ (inputChanged s).settings = s.settings ∧
    (inputChanged s).snapshots = s.snapshots ∧ (inputChanged s).flags = s.flags ∧
    (inputChanged s).pending = s.pending ∧
    (inputChanged s).freeDraws = s.freeDraws ∧ (inputChanged s).tb.role = s.tb.role ∧
    (inputChanged s).tb.designated = s.tb.designated ∧ (inputChanged s).tb.election = s.tb.election ∧
    (inputChanged s).tb.period = s.tb.period ∧ (inputChanged s).tb.listen = s.tb.listen ∧
    (inputChanged s).tb.missed = s.tb.missed ∧ (inputChanged s).tb.expected = s.tb.expected ∧
    (inputChanged s).tb.markDue = s.tb.markDue ∧ (inputChanged s).tb.orphan = s.tb.orphan := by
  unfold inputChanged; (try dsimp only); (repeat' split) <;> simp

@[simp] theorem setRole_frame (held : Bool) (s : State) :
    (setRole held s).powered = s.powered ∧ (setRole held s).pins = s.pins ∧ (setRole held s).clock = s.clock ∧
    (setRole held s).trunk = s.trunk ∧ (setRole held s).framer = s.framer ∧
    (setRole held s).station = s.station ∧ (setRole held s).progress = s.progress ∧
    (setRole held s).roster = s.roster ∧ (setRole held s).rollCall = s.rollCall ∧
    (setRole held s).map = s.map ∧ (setRole held s).out = s.out ∧ (setRole held s).inb = s.inb ∧
    (setRole held s).mem = s.mem ∧ (setRole held s).trig = s.trig ∧ (setRole held s).guard = s.guard ∧
    (setRole held s).frame = s.frame ∧ (setRole held s).service = s.service ∧
    (setRole held s).setup = s.setup ∧ (setRole held s).settings = s.settings ∧
    (setRole held s).snapshots = s.snapshots ∧ (setRole held s).pending = s.pending ∧
    (setRole held s).freeDraws = s.freeDraws ∧
    (setRole held s).tb.designated = s.tb.designated ∧ (setRole held s).tb.election = s.tb.election ∧
    (setRole held s).tb.period = s.tb.period ∧ (setRole held s).tb.listen = s.tb.listen ∧
    (setRole held s).tb.missed = s.tb.missed ∧ (setRole held s).tb.expected = s.tb.expected ∧
    (setRole held s).tb.markDue = s.tb.markDue ∧ (setRole held s).tb.orphan = s.tb.orphan := by
  unfold setRole; (try dsimp only); (repeat' split) <;> simp

@[simp] theorem raiseTimeStep_frame (s : State) :
    (raiseTimeStep s).powered = s.powered ∧ (raiseTimeStep s).pins = s.pins ∧
    (raiseTimeStep s).clock = s.clock ∧ (raiseTimeStep s).trunk = s.trunk ∧
    (raiseTimeStep s).framer = s.framer ∧ (raiseTimeStep s).tb = s.tb ∧ (raiseTimeStep s).station = s.station ∧
    (raiseTimeStep s).progress = s.progress ∧ (raiseTimeStep s).roster = s.roster ∧
    (raiseTimeStep s).rollCall = s.rollCall ∧ (raiseTimeStep s).map = s.map ∧ (raiseTimeStep s).mem = s.mem ∧
    (raiseTimeStep s).trig = s.trig ∧ (raiseTimeStep s).guard = s.guard ∧ (raiseTimeStep s).frame = s.frame ∧
    (raiseTimeStep s).service = s.service ∧ (raiseTimeStep s).setup = s.setup ∧
    (raiseTimeStep s).settings = s.settings ∧ (raiseTimeStep s).snapshots = s.snapshots ∧
    (raiseTimeStep s).flags = s.flags ∧ (raiseTimeStep s).pending = s.pending ∧
    (raiseTimeStep s).freeDraws = s.freeDraws := by
  unfold raiseTimeStep; (try dsimp only); (repeat' split) <;> simp

@[simp] theorem correct_frame (time received : Nat) (s : State) :
    (correct time received s).powered = s.powered ∧ (correct time received s).pins = s.pins ∧
    (correct time received s).trunk = s.trunk ∧ (correct time received s).framer = s.framer ∧
    (correct time received s).tb = s.tb ∧ (correct time received s).station = s.station ∧
    (correct time received s).progress = s.progress ∧ (correct time received s).roster = s.roster ∧
    (correct time received s).rollCall = s.rollCall ∧ (correct time received s).map = s.map ∧
    (correct time received s).mem = s.mem ∧ (correct time received s).trig = s.trig ∧
    (correct time received s).guard = s.guard ∧ (correct time received s).frame = s.frame ∧
    (correct time received s).service = s.service ∧ (correct time received s).setup = s.setup ∧
    (correct time received s).settings = s.settings ∧ (correct time received s).snapshots = s.snapshots ∧
    (correct time received s).flags = s.flags ∧ (correct time received s).pending = s.pending ∧
    (correct time received s).freeDraws = s.freeDraws := by
  unfold correct; (try dsimp only); (repeat' split) <;> simp

@[simp] theorem designate_frame (d : Option StationId) (rank : Nat) (s : State) :
    (designate d rank s).powered = s.powered ∧ (designate d rank s).pins = s.pins ∧
    (designate d rank s).clock = s.clock ∧ (designate d rank s).trunk = s.trunk ∧
    (designate d rank s).framer = s.framer ∧ (designate d rank s).station = s.station ∧
    (designate d rank s).progress = s.progress ∧ (designate d rank s).roster = s.roster ∧
    (designate d rank s).rollCall = s.rollCall ∧ (designate d rank s).map = s.map ∧
    (designate d rank s).out = s.out ∧ (designate d rank s).inb = s.inb ∧ (designate d rank s).mem = s.mem ∧
    (designate d rank s).trig = s.trig ∧ (designate d rank s).guard = s.guard ∧
    (designate d rank s).frame = s.frame ∧ (designate d rank s).service = s.service ∧
    (designate d rank s).setup = s.setup ∧ (designate d rank s).settings = s.settings ∧
    (designate d rank s).snapshots = s.snapshots ∧ (designate d rank s).pending = s.pending ∧
    (designate d rank s).freeDraws = s.freeDraws ∧
    (designate d rank s).tb.role = s.tb.role ∧ (designate d rank s).tb.election = s.tb.election ∧
    (designate d rank s).tb.period = s.tb.period ∧ (designate d rank s).tb.lock = s.tb.lock ∧
    (designate d rank s).tb.listen = s.tb.listen ∧ (designate d rank s).tb.missed = s.tb.missed ∧
    (designate d rank s).tb.expected = s.tb.expected ∧ (designate d rank s).tb.markDue = s.tb.markDue ∧
    (designate d rank s).tb.orphan = s.tb.orphan := by
  unfold designate; (try dsimp only); (repeat' split) <;> simp

@[simp] theorem designateNone_frame (s : State) :
    (designateNone s).powered = s.powered ∧ (designateNone s).pins = s.pins ∧
    (designateNone s).clock = s.clock ∧ (designateNone s).trunk = s.trunk ∧
    (designateNone s).framer = s.framer ∧ (designateNone s).station = s.station ∧
    (designateNone s).progress = s.progress ∧ (designateNone s).roster = s.roster ∧
    (designateNone s).rollCall = s.rollCall ∧ (designateNone s).map = s.map ∧ (designateNone s).out = s.out ∧
    (designateNone s).inb = s.inb ∧ (designateNone s).mem = s.mem ∧ (designateNone s).trig = s.trig ∧
    (designateNone s).guard = s.guard ∧ (designateNone s).frame = s.frame ∧
    (designateNone s).service = s.service ∧ (designateNone s).setup = s.setup ∧
    (designateNone s).settings = s.settings ∧ (designateNone s).snapshots = s.snapshots ∧
    (designateNone s).pending = s.pending ∧
    (designateNone s).freeDraws = s.freeDraws ∧ (designateNone s).tb.role = s.tb.role ∧
    (designateNone s).tb.election = s.tb.election ∧ (designateNone s).tb.period = s.tb.period ∧
    (designateNone s).tb.lock = s.tb.lock ∧ (designateNone s).tb.listen = s.tb.listen ∧
    (designateNone s).tb.missed = s.tb.missed ∧ (designateNone s).tb.expected = s.tb.expected ∧
    (designateNone s).tb.markDue = s.tb.markDue ∧ (designateNone s).tb.orphan = s.tb.orphan := by
  unfold designateNone; (try dsimp only); (repeat' split) <;> simp

@[simp] theorem cancelElection_frame (s : State) :
    (cancelElection s).powered = s.powered ∧ (cancelElection s).pins = s.pins ∧
    (cancelElection s).clock = s.clock ∧ (cancelElection s).framer = s.framer ∧
    (cancelElection s).station = s.station ∧ (cancelElection s).progress = s.progress ∧
    (cancelElection s).roster = s.roster ∧ (cancelElection s).rollCall = s.rollCall ∧
    (cancelElection s).map = s.map ∧ (cancelElection s).out = s.out ∧ (cancelElection s).inb = s.inb ∧
    (cancelElection s).mem = s.mem ∧ (cancelElection s).trig = s.trig ∧ (cancelElection s).guard = s.guard ∧
    (cancelElection s).frame = s.frame ∧ (cancelElection s).service = s.service ∧
    (cancelElection s).setup = s.setup ∧ (cancelElection s).settings = s.settings ∧
    (cancelElection s).snapshots = s.snapshots ∧ (cancelElection s).flags = s.flags ∧
    (cancelElection s).pending = s.pending ∧
    (cancelElection s).freeDraws = s.freeDraws ∧ (cancelElection s).trunk.switch = s.trunk.switch ∧
    (cancelElection s).trunk.sending = s.trunk.sending ∧ (cancelElection s).tb.role = s.tb.role ∧
    (cancelElection s).tb.designated = s.tb.designated ∧ (cancelElection s).tb.period = s.tb.period ∧
    (cancelElection s).tb.lock = s.tb.lock ∧ (cancelElection s).tb.listen = s.tb.listen ∧
    (cancelElection s).tb.missed = s.tb.missed ∧ (cancelElection s).tb.expected = s.tb.expected ∧
    (cancelElection s).tb.markDue = s.tb.markDue ∧ (cancelElection s).tb.orphan = s.tb.orphan := by
  unfold cancelElection; (try dsimp only); (repeat' split) <;> simp

@[simp] theorem settleElection_frame (s : State) :
    (settleElection s).powered = s.powered ∧ (settleElection s).pins = s.pins ∧
    (settleElection s).clock = s.clock ∧ (settleElection s).framer = s.framer ∧
    (settleElection s).station = s.station ∧ (settleElection s).progress = s.progress ∧
    (settleElection s).roster = s.roster ∧ (settleElection s).rollCall = s.rollCall ∧
    (settleElection s).map = s.map ∧ (settleElection s).out = s.out ∧ (settleElection s).inb = s.inb ∧
    (settleElection s).mem = s.mem ∧ (settleElection s).trig = s.trig ∧ (settleElection s).guard = s.guard ∧
    (settleElection s).frame = s.frame ∧ (settleElection s).service = s.service ∧
    (settleElection s).setup = s.setup ∧ (settleElection s).settings = s.settings ∧
    (settleElection s).snapshots = s.snapshots ∧ (settleElection s).flags = s.flags ∧
    (settleElection s).pending = s.pending ∧
    (settleElection s).freeDraws = s.freeDraws ∧ (settleElection s).trunk.switch = s.trunk.switch ∧
    (settleElection s).trunk.sending = s.trunk.sending ∧ (settleElection s).tb.role = s.tb.role ∧
    (settleElection s).tb.designated = s.tb.designated ∧ (settleElection s).tb.period = s.tb.period ∧
    (settleElection s).tb.lock = s.tb.lock ∧ (settleElection s).tb.listen = s.tb.listen ∧
    (settleElection s).tb.missed = s.tb.missed ∧ (settleElection s).tb.expected = s.tb.expected ∧
    (settleElection s).tb.markDue = s.tb.markDue ∧ (settleElection s).tb.orphan = s.tb.orphan := by
  unfold settleElection; (try dsimp only); (repeat' split) <;> simp

@[simp] theorem restartListen_frame (s : State) :
    (restartListen s).powered = s.powered ∧ (restartListen s).pins = s.pins ∧
    (restartListen s).clock = s.clock ∧ (restartListen s).trunk = s.trunk ∧
    (restartListen s).framer = s.framer ∧ (restartListen s).station = s.station ∧
    (restartListen s).progress = s.progress ∧ (restartListen s).roster = s.roster ∧
    (restartListen s).rollCall = s.rollCall ∧ (restartListen s).map = s.map ∧ (restartListen s).out = s.out ∧
    (restartListen s).inb = s.inb ∧ (restartListen s).mem = s.mem ∧ (restartListen s).trig = s.trig ∧
    (restartListen s).guard = s.guard ∧ (restartListen s).frame = s.frame ∧
    (restartListen s).service = s.service ∧ (restartListen s).setup = s.setup ∧
    (restartListen s).settings = s.settings ∧ (restartListen s).snapshots = s.snapshots ∧
    (restartListen s).flags = s.flags ∧ (restartListen s).pending = s.pending ∧
    (restartListen s).freeDraws = s.freeDraws ∧
    (restartListen s).tb.role = s.tb.role ∧ (restartListen s).tb.designated = s.tb.designated ∧
    (restartListen s).tb.election = s.tb.election ∧ (restartListen s).tb.period = s.tb.period ∧
    (restartListen s).tb.lock = s.tb.lock ∧ (restartListen s).tb.missed = s.tb.missed ∧
    (restartListen s).tb.expected = s.tb.expected ∧ (restartListen s).tb.markDue = s.tb.markDue ∧
    (restartListen s).tb.orphan = s.tb.orphan := by
  unfold restartListen; (try dsimp only); (repeat' split) <;> simp

@[simp] theorem abandonEmptyTrunk_frame (s : State) :
    (abandonEmptyTrunk s).powered = s.powered ∧ (abandonEmptyTrunk s).pins = s.pins ∧
    (abandonEmptyTrunk s).clock = s.clock ∧ (abandonEmptyTrunk s).framer = s.framer ∧
    (abandonEmptyTrunk s).rollCall = s.rollCall ∧ (abandonEmptyTrunk s).mem = s.mem ∧
    (abandonEmptyTrunk s).frame = s.frame ∧ (abandonEmptyTrunk s).service = s.service ∧
    (abandonEmptyTrunk s).setup = s.setup ∧ (abandonEmptyTrunk s).settings = s.settings ∧
    (abandonEmptyTrunk s).snapshots = s.snapshots ∧ (abandonEmptyTrunk s).pending = s.pending ∧
    (abandonEmptyTrunk s).freeDraws = s.freeDraws ∧
    (abandonEmptyTrunk s).trunk.switch = s.trunk.switch ∧
    (abandonEmptyTrunk s).trunk.sending = s.trunk.sending ∧ (abandonEmptyTrunk s).tb.role = s.tb.role ∧
    (abandonEmptyTrunk s).tb.designated = s.tb.designated ∧ (abandonEmptyTrunk s).tb.period = s.tb.period ∧
    (abandonEmptyTrunk s).guard.thresholds = s.guard.thresholds ∧ (abandonEmptyTrunk s).tb.lock = s.tb.lock ∧
    (abandonEmptyTrunk s).tb.missed = s.tb.missed ∧ (abandonEmptyTrunk s).tb.expected = s.tb.expected ∧
    (abandonEmptyTrunk s).tb.markDue = s.tb.markDue ∧ (abandonEmptyTrunk s).tb.orphan = s.tb.orphan ∧
    (abandonEmptyTrunk s).trig.settings = s.trig.settings ∧
    (abandonEmptyTrunk s).trig.filtered = s.trig.filtered := by
  unfold abandonEmptyTrunk; (try dsimp only); (repeat' split) <;> simp

@[simp] theorem endAdmission_frame (s : State) :
    (endAdmission s).powered = s.powered ∧ (endAdmission s).pins = s.pins ∧ (endAdmission s).clock = s.clock ∧
    (endAdmission s).trunk = s.trunk ∧ (endAdmission s).framer = s.framer ∧
    (endAdmission s).rollCall = s.rollCall ∧ (endAdmission s).mem = s.mem ∧ (endAdmission s).frame = s.frame ∧
    (endAdmission s).service = s.service ∧ (endAdmission s).setup = s.setup ∧
    (endAdmission s).settings = s.settings ∧ (endAdmission s).snapshots = s.snapshots ∧
    (endAdmission s).pending = s.pending ∧
    (endAdmission s).freeDraws = s.freeDraws ∧ (endAdmission s).tb.role = s.tb.role ∧
    (endAdmission s).tb.designated = s.tb.designated ∧ (endAdmission s).tb.election = s.tb.election ∧
    (endAdmission s).tb.period = s.tb.period ∧ (endAdmission s).guard.thresholds = s.guard.thresholds ∧
    (endAdmission s).tb.lock = s.tb.lock ∧ (endAdmission s).tb.missed = s.tb.missed ∧
    (endAdmission s).tb.expected = s.tb.expected ∧ (endAdmission s).tb.markDue = s.tb.markDue ∧
    (endAdmission s).tb.orphan = s.tb.orphan ∧ (endAdmission s).trig.settings = s.trig.settings ∧
    (endAdmission s).trig.filtered = s.trig.filtered := by
  unfold endAdmission; (try dsimp only); (repeat' split) <;> simp

@[simp] theorem framingEnds_frame (s : State) :
    (framingEnds s).powered = s.powered ∧ (framingEnds s).pins = s.pins ∧ (framingEnds s).clock = s.clock ∧
    (framingEnds s).tb = s.tb ∧ (framingEnds s).station = s.station ∧ (framingEnds s).progress = s.progress ∧
    (framingEnds s).roster = s.roster ∧ (framingEnds s).rollCall = s.rollCall ∧ (framingEnds s).map = s.map ∧
    (framingEnds s).out = s.out ∧ (framingEnds s).inb = s.inb ∧ (framingEnds s).mem = s.mem ∧
    (framingEnds s).trig = s.trig ∧ (framingEnds s).frame = s.frame ∧ (framingEnds s).service = s.service ∧
    (framingEnds s).setup = s.setup ∧ (framingEnds s).settings = s.settings ∧
    (framingEnds s).snapshots = s.snapshots ∧ (framingEnds s).flags = s.flags ∧
    (framingEnds s).pending = s.pending ∧ (framingEnds s).freeDraws = s.freeDraws ∧
    (framingEnds s).trunk.switch = s.trunk.switch ∧ (framingEnds s).trunk.sending = s.trunk.sending ∧
    (framingEnds s).trunk.queue = s.trunk.queue ∧ (framingEnds s).trunk.waiting = s.trunk.waiting ∧
    (framingEnds s).framer.round = s.framer.round ∧ (framingEnds s).framer.start = s.framer.start ∧
    (framingEnds s).framer.period = s.framer.period ∧ (framingEnds s).framer.opening = s.framer.opening ∧
    (framingEnds s).guard.state = s.guard.state ∧ (framingEnds s).guard.thresholds = s.guard.thresholds := by
  unfold framingEnds; (try dsimp only); (repeat' split) <;> simp

@[simp] theorem unframe_frame (s : State) :
    (unframe s).powered = s.powered ∧ (unframe s).pins = s.pins ∧ (unframe s).clock = s.clock ∧
    (unframe s).rollCall = s.rollCall ∧ (unframe s).mem = s.mem ∧ (unframe s).frame = s.frame ∧
    (unframe s).service = s.service ∧ (unframe s).setup = s.setup ∧ (unframe s).settings = s.settings ∧
    (unframe s).pending = s.pending ∧ (unframe s).trunk.switch = s.trunk.switch ∧
    (unframe s).trunk.sending = s.trunk.sending ∧ (unframe s).tb.role = s.tb.role ∧
    (unframe s).tb.designated = s.tb.designated ∧ (unframe s).tb.election = s.tb.election ∧
    (unframe s).tb.period = s.tb.period ∧ (unframe s).framer.round = s.framer.round ∧
    (unframe s).framer.opening = s.framer.opening ∧ (unframe s).guard.thresholds = s.guard.thresholds ∧
    (unframe s).tb.lock = s.tb.lock ∧ (unframe s).tb.missed = s.tb.missed ∧
    (unframe s).tb.expected = s.tb.expected ∧ (unframe s).tb.markDue = s.tb.markDue ∧
    (unframe s).tb.orphan = s.tb.orphan ∧ (unframe s).trig.settings = s.trig.settings ∧
    (unframe s).trig.filtered = s.trig.filtered := by
  unfold unframe; (try dsimp only); (repeat' split) <;> simp

@[simp] theorem declareLoss_frame (s : State) :
    (declareLoss s).powered = s.powered ∧ (declareLoss s).pins = s.pins ∧ (declareLoss s).clock = s.clock ∧
    (declareLoss s).rollCall = s.rollCall ∧ (declareLoss s).mem = s.mem ∧ (declareLoss s).frame = s.frame ∧
    (declareLoss s).service = s.service ∧ (declareLoss s).setup = s.setup ∧
    (declareLoss s).settings = s.settings ∧ (declareLoss s).pending = s.pending ∧
    (declareLoss s).trunk.switch = s.trunk.switch ∧ (declareLoss s).trunk.sending = s.trunk.sending ∧
    (declareLoss s).tb.role = s.tb.role ∧ (declareLoss s).tb.election = s.tb.election ∧
    (declareLoss s).tb.period = s.tb.period ∧ (declareLoss s).framer.round = s.framer.round ∧
    (declareLoss s).framer.opening = s.framer.opening ∧ (declareLoss s).guard.thresholds = s.guard.thresholds ∧
    (declareLoss s).tb.lock = s.tb.lock ∧ (declareLoss s).tb.markDue = s.tb.markDue ∧
    (declareLoss s).trig.settings = s.trig.settings ∧ (declareLoss s).trig.filtered = s.trig.filtered := by
  unfold declareLoss; (try dsimp only); (repeat' split) <;> simp

@[simp] theorem gainRole_frame (due : MarkAt) (period : Nat) (s : State) :
    (gainRole due period s).powered = s.powered ∧ (gainRole due period s).pins = s.pins ∧
    (gainRole due period s).clock = s.clock ∧ (gainRole due period s).framer = s.framer ∧
    (gainRole due period s).station = s.station ∧ (gainRole due period s).progress = s.progress ∧
    (gainRole due period s).rollCall = s.rollCall ∧ (gainRole due period s).mem = s.mem ∧
    (gainRole due period s).trig = s.trig ∧ (gainRole due period s).guard = s.guard ∧
    (gainRole due period s).frame = s.frame ∧ (gainRole due period s).service = s.service ∧
    (gainRole due period s).setup = s.setup ∧ (gainRole due period s).settings = s.settings ∧
    (gainRole due period s).snapshots = s.snapshots ∧ (gainRole due period s).pending = s.pending ∧
    (gainRole due period s).trunk.switch = s.trunk.switch ∧
    (gainRole due period s).trunk.sending = s.trunk.sending ∧
    (gainRole due period s).map.entries = s.map.entries ∧ (gainRole due period s).map.epoch = s.map.epoch := by
  unfold gainRole; (try dsimp only); (repeat' split) <;> simp

@[simp] theorem dropRole_frame (s : State) :
    (dropRole s).powered = s.powered ∧ (dropRole s).pins = s.pins ∧ (dropRole s).clock = s.clock ∧
    (dropRole s).trunk = s.trunk ∧ (dropRole s).framer = s.framer ∧ (dropRole s).station = s.station ∧
    (dropRole s).progress = s.progress ∧ (dropRole s).roster = s.roster ∧ (dropRole s).rollCall = s.rollCall ∧
    (dropRole s).map = s.map ∧ (dropRole s).out = s.out ∧ (dropRole s).inb = s.inb ∧ (dropRole s).mem = s.mem ∧
    (dropRole s).trig = s.trig ∧ (dropRole s).guard = s.guard ∧ (dropRole s).frame = s.frame ∧
    (dropRole s).service = s.service ∧ (dropRole s).setup = s.setup ∧ (dropRole s).settings = s.settings ∧
    (dropRole s).snapshots = s.snapshots ∧ (dropRole s).pending = s.pending ∧
    (dropRole s).freeDraws = s.freeDraws ∧
    (dropRole s).tb.election = s.tb.election ∧ (dropRole s).tb.period = s.tb.period ∧
    (dropRole s).tb.listen = s.tb.listen := by
  unfold dropRole; (try dsimp only); (repeat' split) <;> simp

@[simp] theorem passRole_frame (j : StationId) (rank base : Nat) (s : State) :
    (passRole j rank base s).powered = s.powered ∧ (passRole j rank base s).pins = s.pins ∧
    (passRole j rank base s).clock = s.clock ∧ (passRole j rank base s).trunk = s.trunk ∧
    (passRole j rank base s).framer = s.framer ∧ (passRole j rank base s).station = s.station ∧
    (passRole j rank base s).progress = s.progress ∧ (passRole j rank base s).rollCall = s.rollCall ∧
    (passRole j rank base s).map = s.map ∧ (passRole j rank base s).out = s.out ∧
    (passRole j rank base s).inb = s.inb ∧ (passRole j rank base s).mem = s.mem ∧
    (passRole j rank base s).trig = s.trig ∧ (passRole j rank base s).guard = s.guard ∧
    (passRole j rank base s).frame = s.frame ∧ (passRole j rank base s).service = s.service ∧
    (passRole j rank base s).setup = s.setup ∧ (passRole j rank base s).settings = s.settings ∧
    (passRole j rank base s).snapshots = s.snapshots ∧ (passRole j rank base s).pending = s.pending ∧
    (passRole j rank base s).freeDraws = s.freeDraws ∧
    (passRole j rank base s).tb.election = s.tb.election ∧ (passRole j rank base s).tb.period = s.tb.period ∧
    (passRole j rank base s).tb.listen = s.tb.listen := by
  unfold passRole; (try dsimp only); (repeat' split) <;> simp

@[simp] theorem settleRole_frame (s : State) :
    (settleRole s).powered = s.powered ∧ (settleRole s).pins = s.pins ∧ (settleRole s).clock = s.clock ∧
    (settleRole s).trunk = s.trunk ∧ (settleRole s).framer = s.framer ∧ (settleRole s).station = s.station ∧
    (settleRole s).progress = s.progress ∧ (settleRole s).roster = s.roster ∧
    (settleRole s).rollCall = s.rollCall ∧ (settleRole s).map = s.map ∧ (settleRole s).out = s.out ∧
    (settleRole s).inb = s.inb ∧ (settleRole s).mem = s.mem ∧ (settleRole s).trig = s.trig ∧
    (settleRole s).guard = s.guard ∧ (settleRole s).frame = s.frame ∧ (settleRole s).service = s.service ∧
    (settleRole s).setup = s.setup ∧ (settleRole s).settings = s.settings ∧
    (settleRole s).snapshots = s.snapshots ∧ (settleRole s).pending = s.pending ∧
    (settleRole s).freeDraws = s.freeDraws ∧
    (settleRole s).tb.election = s.tb.election ∧ (settleRole s).tb.period = s.tb.period ∧
    (settleRole s).tb.listen = s.tb.listen := by
  unfold settleRole; (try dsimp only); (repeat' split) <;> simp

@[simp] theorem markUnsent_frame (s : State) :
    (markUnsent s).powered = s.powered ∧ (markUnsent s).pins = s.pins ∧ (markUnsent s).clock = s.clock ∧
    (markUnsent s).rollCall = s.rollCall ∧ (markUnsent s).mem = s.mem ∧ (markUnsent s).frame = s.frame ∧
    (markUnsent s).service = s.service ∧ (markUnsent s).setup = s.setup ∧ (markUnsent s).settings = s.settings ∧
    (markUnsent s).pending = s.pending ∧ (markUnsent s).trunk.switch = s.trunk.switch ∧
    (markUnsent s).trunk.sending = s.trunk.sending ∧ (markUnsent s).tb.election = s.tb.election ∧
    (markUnsent s).tb.period = s.tb.period ∧ (markUnsent s).framer.round = s.framer.round ∧
    (markUnsent s).framer.opening = s.framer.opening ∧ (markUnsent s).guard.thresholds = s.guard.thresholds ∧
    (markUnsent s).trig.settings = s.trig.settings ∧ (markUnsent s).trig.filtered = s.trig.filtered := by
  unfold markUnsent; (try dsimp only); (repeat' split) <;> simp

@[simp] theorem settle_frame (s : State) :
    (settle s).powered = s.powered ∧ (settle s).pins = s.pins ∧ (settle s).clock = s.clock ∧
    (settle s).framer = s.framer ∧ (settle s).station = s.station ∧ (settle s).progress = s.progress ∧
    (settle s).roster = s.roster ∧ (settle s).rollCall = s.rollCall ∧ (settle s).map = s.map ∧
    (settle s).inb = s.inb ∧ (settle s).mem = s.mem ∧ (settle s).trig = s.trig ∧ (settle s).guard = s.guard ∧
    (settle s).frame = s.frame ∧ (settle s).service = s.service ∧ (settle s).setup = s.setup ∧
    (settle s).settings = s.settings ∧ (settle s).snapshots = s.snapshots ∧ (settle s).pending = s.pending ∧
    (settle s).freeDraws = s.freeDraws ∧
    (settle s).trunk.switch = s.trunk.switch ∧ (settle s).trunk.sending = s.trunk.sending ∧
    (settle s).tb.period = s.tb.period ∧ (settle s).tb.listen = s.tb.listen := by
  unfold settle; (try dsimp only); (repeat' split) <;> simp

@[simp] theorem missEntry_frame (i : StationId) (s : State) :
    (missEntry i s).powered = s.powered ∧ (missEntry i s).pins = s.pins ∧ (missEntry i s).clock = s.clock ∧
    (missEntry i s).trunk = s.trunk ∧ (missEntry i s).framer = s.framer ∧ (missEntry i s).tb = s.tb ∧
    (missEntry i s).station = s.station ∧ (missEntry i s).progress = s.progress ∧
    (missEntry i s).rollCall = s.rollCall ∧ (missEntry i s).out = s.out ∧ (missEntry i s).inb = s.inb ∧
    (missEntry i s).mem = s.mem ∧ (missEntry i s).guard = s.guard ∧ (missEntry i s).frame = s.frame ∧
    (missEntry i s).service = s.service ∧ (missEntry i s).setup = s.setup ∧
    (missEntry i s).settings = s.settings ∧ (missEntry i s).snapshots = s.snapshots ∧
    (missEntry i s).pending = s.pending ∧
    (missEntry i s).freeDraws = s.freeDraws ∧ (missEntry i s).map.resync = s.map.resync ∧
    (missEntry i s).map.entries = s.map.entries ∧ (missEntry i s).map.epoch = s.map.epoch ∧
    (missEntry i s).trig.pendingTrigger = s.trig.pendingTrigger ∧
    (missEntry i s).trig.settings = s.trig.settings ∧ (missEntry i s).trig.filtered = s.trig.filtered := by
  unfold missEntry; (try dsimp only); (repeat' split) <;> simp

@[simp] theorem missEntries_frame (l : List StationId) (s : State) :
    (missEntries l s).powered = s.powered ∧ (missEntries l s).pins = s.pins ∧
    (missEntries l s).clock = s.clock ∧ (missEntries l s).trunk = s.trunk ∧
    (missEntries l s).framer = s.framer ∧ (missEntries l s).tb = s.tb ∧ (missEntries l s).station = s.station ∧
    (missEntries l s).progress = s.progress ∧ (missEntries l s).rollCall = s.rollCall ∧
    (missEntries l s).out = s.out ∧ (missEntries l s).inb = s.inb ∧ (missEntries l s).mem = s.mem ∧
    (missEntries l s).guard = s.guard ∧ (missEntries l s).frame = s.frame ∧
    (missEntries l s).service = s.service ∧ (missEntries l s).setup = s.setup ∧
    (missEntries l s).settings = s.settings ∧ (missEntries l s).snapshots = s.snapshots ∧
    (missEntries l s).pending = s.pending ∧
    (missEntries l s).freeDraws = s.freeDraws ∧ (missEntries l s).map.resync = s.map.resync ∧
    (missEntries l s).map.entries = s.map.entries ∧ (missEntries l s).map.epoch = s.map.epoch ∧
    (missEntries l s).trig.pendingTrigger = s.trig.pendingTrigger ∧
    (missEntries l s).trig.settings = s.trig.settings ∧ (missEntries l s).trig.filtered = s.trig.filtered := by
  induction l generalizing s with
  | nil => simp [missEntries]
  | cons x xs ih => simp [missEntries, ih]

@[simp] theorem countMisses_frame (s : State) :
    (countMisses s).powered = s.powered ∧ (countMisses s).pins = s.pins ∧ (countMisses s).clock = s.clock ∧
    (countMisses s).trunk = s.trunk ∧ (countMisses s).framer = s.framer ∧ (countMisses s).tb = s.tb ∧
    (countMisses s).station = s.station ∧ (countMisses s).progress = s.progress ∧ (countMisses s).out = s.out ∧
    (countMisses s).inb = s.inb ∧ (countMisses s).mem = s.mem ∧ (countMisses s).guard = s.guard ∧
    (countMisses s).frame = s.frame ∧ (countMisses s).service = s.service ∧ (countMisses s).setup = s.setup ∧
    (countMisses s).settings = s.settings ∧ (countMisses s).snapshots = s.snapshots ∧
    (countMisses s).pending = s.pending ∧
    (countMisses s).freeDraws = s.freeDraws ∧ (countMisses s).map.resync = s.map.resync ∧
    (countMisses s).map.entries = s.map.entries ∧ (countMisses s).map.epoch = s.map.epoch ∧
    (countMisses s).trig.pendingTrigger = s.trig.pendingTrigger ∧
    (countMisses s).trig.settings = s.trig.settings ∧ (countMisses s).trig.filtered = s.trig.filtered := by
  unfold countMisses; (try dsimp only); (repeat' split) <;> simp

@[simp] theorem learnBoundary_frame (s : State) :
    (learnBoundary s).powered = s.powered ∧ (learnBoundary s).pins = s.pins ∧
    (learnBoundary s).clock = s.clock ∧ (learnBoundary s).trunk = s.trunk ∧
    (learnBoundary s).framer = s.framer ∧ (learnBoundary s).tb = s.tb ∧ (learnBoundary s).roster = s.roster ∧
    (learnBoundary s).rollCall = s.rollCall ∧ (learnBoundary s).map = s.map ∧ (learnBoundary s).out = s.out ∧
    (learnBoundary s).inb = s.inb ∧ (learnBoundary s).mem = s.mem ∧ (learnBoundary s).trig = s.trig ∧
    (learnBoundary s).guard = s.guard ∧ (learnBoundary s).frame = s.frame ∧
    (learnBoundary s).service = s.service ∧ (learnBoundary s).setup = s.setup ∧
    (learnBoundary s).settings = s.settings ∧ (learnBoundary s).snapshots = s.snapshots ∧
    (learnBoundary s).pending = s.pending ∧
    (learnBoundary s).freeDraws = s.freeDraws := by
  unfold learnBoundary; (try dsimp only); (repeat' split) <;> simp

@[simp] theorem joinBoundary_frame (s : State) :
    (joinBoundary s).powered = s.powered ∧ (joinBoundary s).pins = s.pins ∧ (joinBoundary s).clock = s.clock ∧
    (joinBoundary s).trunk = s.trunk ∧ (joinBoundary s).framer = s.framer ∧ (joinBoundary s).tb = s.tb ∧
    (joinBoundary s).station = s.station ∧ (joinBoundary s).roster = s.roster ∧
    (joinBoundary s).rollCall = s.rollCall ∧ (joinBoundary s).map = s.map ∧ (joinBoundary s).out = s.out ∧
    (joinBoundary s).inb = s.inb ∧ (joinBoundary s).mem = s.mem ∧ (joinBoundary s).trig = s.trig ∧
    (joinBoundary s).guard = s.guard ∧ (joinBoundary s).frame = s.frame ∧
    (joinBoundary s).service = s.service ∧ (joinBoundary s).setup = s.setup ∧
    (joinBoundary s).settings = s.settings ∧ (joinBoundary s).snapshots = s.snapshots ∧
    (joinBoundary s).flags = s.flags ∧ (joinBoundary s).pending = s.pending ∧
    (joinBoundary s).freeDraws = s.freeDraws ∧
    (joinBoundary s).progress.leaveClosingDue = s.progress.leaveClosingDue ∧
    (joinBoundary s).progress.leavingDue = s.progress.leavingDue ∧
    (joinBoundary s).progress.ownLeaveTaken = s.progress.ownLeaveTaken := by
  unfold joinBoundary; (try dsimp only); (repeat' split) <;> simp

@[simp] theorem presenceBoundary_frame (s : State) :
    (presenceBoundary s).powered = s.powered ∧ (presenceBoundary s).pins = s.pins ∧
    (presenceBoundary s).clock = s.clock ∧ (presenceBoundary s).trunk = s.trunk ∧
    (presenceBoundary s).framer = s.framer ∧ (presenceBoundary s).tb = s.tb ∧
    (presenceBoundary s).station = s.station ∧ (presenceBoundary s).roster = s.roster ∧
    (presenceBoundary s).rollCall = s.rollCall ∧ (presenceBoundary s).map = s.map ∧
    (presenceBoundary s).out = s.out ∧ (presenceBoundary s).inb = s.inb ∧ (presenceBoundary s).mem = s.mem ∧
    (presenceBoundary s).trig = s.trig ∧ (presenceBoundary s).guard = s.guard ∧
    (presenceBoundary s).frame = s.frame ∧ (presenceBoundary s).service = s.service ∧
    (presenceBoundary s).setup = s.setup ∧ (presenceBoundary s).settings = s.settings ∧
    (presenceBoundary s).snapshots = s.snapshots ∧ (presenceBoundary s).flags = s.flags ∧
    (presenceBoundary s).pending = s.pending ∧
    (presenceBoundary s).freeDraws = s.freeDraws ∧
    (presenceBoundary s).progress.leaveClosingDue = s.progress.leaveClosingDue ∧
    (presenceBoundary s).progress.leavingDue = s.progress.leavingDue ∧
    (presenceBoundary s).progress.ownLeaveTaken = s.progress.ownLeaveTaken := by
  unfold presenceBoundary; (try dsimp only); (repeat' split) <;> simp

@[simp] theorem boundaryWork_frame (s : State) :
    (boundaryWork s).powered = s.powered ∧ (boundaryWork s).pins = s.pins ∧ (boundaryWork s).clock = s.clock ∧
    (boundaryWork s).framer = s.framer ∧ (boundaryWork s).mem = s.mem ∧ (boundaryWork s).frame = s.frame ∧
    (boundaryWork s).service = s.service ∧ (boundaryWork s).setup = s.setup ∧
    (boundaryWork s).settings = s.settings ∧ (boundaryWork s).snapshots = s.snapshots ∧
    (boundaryWork s).pending = s.pending ∧ (boundaryWork s).freeDraws = s.freeDraws ∧
    (boundaryWork s).trunk.switch = s.trunk.switch ∧ (boundaryWork s).trunk.sending = s.trunk.sending ∧
    (boundaryWork s).tb.election = s.tb.election ∧ (boundaryWork s).tb.period = s.tb.period ∧
    (boundaryWork s).guard.thresholds = s.guard.thresholds ∧ (boundaryWork s).trig.settings = s.trig.settings ∧
    (boundaryWork s).trig.filtered = s.trig.filtered := by
  unfold boundaryWork; (try dsimp only); (repeat' split) <;> simp

@[simp] theorem beginReckoned_frame (s : State) :
    (beginReckoned s).powered = s.powered ∧ (beginReckoned s).pins = s.pins ∧
    (beginReckoned s).clock = s.clock ∧ (beginReckoned s).trunk.switch = s.trunk.switch ∧
    (beginReckoned s).trunk.queue = s.trunk.queue ∧ (beginReckoned s).trunk.waiting = s.trunk.waiting ∧
    (beginReckoned s).trunk.sending = s.trunk.sending ∧ (beginReckoned s).trunk.gapStart = s.trunk.gapStart ∧
    (beginReckoned s).trunk.repeaterOff = s.trunk.repeaterOff ∧ (beginReckoned s).tb = s.tb ∧
    (beginReckoned s).station = s.station ∧ (beginReckoned s).progress = s.progress ∧
    (beginReckoned s).roster = s.roster ∧ (beginReckoned s).rollCall = s.rollCall ∧
    (beginReckoned s).map = s.map ∧ (beginReckoned s).out = s.out ∧ (beginReckoned s).inb = s.inb ∧
    (beginReckoned s).mem = s.mem ∧ (beginReckoned s).trig = s.trig ∧ (beginReckoned s).guard = s.guard ∧
    (beginReckoned s).frame = s.frame ∧ (beginReckoned s).service = s.service ∧
    (beginReckoned s).setup = s.setup ∧ (beginReckoned s).settings = s.settings ∧
    (beginReckoned s).snapshots = s.snapshots ∧ (beginReckoned s).flags = s.flags ∧
    (beginReckoned s).pending = s.pending ∧
    (beginReckoned s).freeDraws = s.freeDraws ∧ (beginReckoned s).framer.framed = s.framer.framed := by
  unfold beginReckoned; (try dsimp only); (repeat' split) <;> simp

@[simp] theorem declareBoundary_frame (s : State) :
    (declareBoundary s).powered = s.powered ∧ (declareBoundary s).pins = s.pins ∧
    (declareBoundary s).clock = s.clock ∧ (declareBoundary s).mem = s.mem ∧
    (declareBoundary s).frame = s.frame ∧ (declareBoundary s).service = s.service ∧
    (declareBoundary s).setup = s.setup ∧ (declareBoundary s).settings = s.settings ∧
    (declareBoundary s).pending = s.pending ∧ (declareBoundary s).freeDraws = s.freeDraws ∧
    (declareBoundary s).trunk.switch = s.trunk.switch ∧ (declareBoundary s).trunk.sending = s.trunk.sending ∧
    (declareBoundary s).tb.election = s.tb.election ∧ (declareBoundary s).tb.period = s.tb.period ∧
    (declareBoundary s).framer.framed = s.framer.framed ∧
    (declareBoundary s).guard.thresholds = s.guard.thresholds ∧
    (declareBoundary s).trig.settings = s.trig.settings ∧ (declareBoundary s).trig.filtered = s.trig.filtered := by
  unfold declareBoundary; (try dsimp only); (repeat' split) <;> simp

@[simp] theorem impliedBoundary_frame (round : Nat) (s : State) :
    (impliedBoundary round s).powered = s.powered ∧ (impliedBoundary round s).pins = s.pins ∧
    (impliedBoundary round s).clock = s.clock ∧ (impliedBoundary round s).mem = s.mem ∧
    (impliedBoundary round s).frame = s.frame ∧ (impliedBoundary round s).service = s.service ∧
    (impliedBoundary round s).setup = s.setup ∧ (impliedBoundary round s).settings = s.settings ∧
    (impliedBoundary round s).pending = s.pending ∧ (impliedBoundary round s).freeDraws = s.freeDraws ∧
    (impliedBoundary round s).trunk.switch = s.trunk.switch ∧
    (impliedBoundary round s).trunk.sending = s.trunk.sending ∧
    (impliedBoundary round s).tb.election = s.tb.election ∧ (impliedBoundary round s).tb.period = s.tb.period ∧
    (impliedBoundary round s).framer.framed = s.framer.framed ∧
    (impliedBoundary round s).guard.thresholds = s.guard.thresholds ∧
    (impliedBoundary round s).trig.settings = s.trig.settings ∧
    (impliedBoundary round s).trig.filtered = s.trig.filtered := by
  unfold impliedBoundary; (try dsimp only); (repeat' split) <;> simp

@[simp] theorem framingBoundary_frame (round : Nat) (s : State) :
    (framingBoundary round s).powered = s.powered ∧ (framingBoundary round s).pins = s.pins ∧
    (framingBoundary round s).clock = s.clock ∧ (framingBoundary round s).framer = s.framer ∧
    (framingBoundary round s).tb = s.tb ∧ (framingBoundary round s).station = s.station ∧
    (framingBoundary round s).roster = s.roster ∧ (framingBoundary round s).inb = s.inb ∧
    (framingBoundary round s).mem = s.mem ∧ (framingBoundary round s).trig = s.trig ∧
    (framingBoundary round s).frame = s.frame ∧ (framingBoundary round s).service = s.service ∧
    (framingBoundary round s).setup = s.setup ∧ (framingBoundary round s).settings = s.settings ∧
    (framingBoundary round s).snapshots = s.snapshots ∧ (framingBoundary round s).pending = s.pending ∧
    (framingBoundary round s).freeDraws = s.freeDraws ∧
    (framingBoundary round s).trunk.switch = s.trunk.switch ∧
    (framingBoundary round s).trunk.sending = s.trunk.sending ∧
    (framingBoundary round s).guard.state = s.guard.state ∧
    (framingBoundary round s).guard.thresholds = s.guard.thresholds ∧
    (framingBoundary round s).map.entries = s.map.entries ∧ (framingBoundary round s).map.epoch = s.map.epoch ∧
    (framingBoundary round s).map.resync = s.map.resync := by
  unfold framingBoundary; (try dsimp only); (repeat' split) <;> simp

@[simp] theorem resumePacing_frame (s : State) :
    (resumePacing s).powered = s.powered ∧ (resumePacing s).pins = s.pins ∧ (resumePacing s).clock = s.clock ∧
    (resumePacing s).framer = s.framer ∧ (resumePacing s).tb = s.tb ∧ (resumePacing s).station = s.station ∧
    (resumePacing s).progress = s.progress ∧ (resumePacing s).roster = s.roster ∧
    (resumePacing s).rollCall = s.rollCall ∧ (resumePacing s).map = s.map ∧ (resumePacing s).out = s.out ∧
    (resumePacing s).inb = s.inb ∧ (resumePacing s).mem = s.mem ∧ (resumePacing s).trig = s.trig ∧
    (resumePacing s).guard = s.guard ∧ (resumePacing s).frame = s.frame ∧ (resumePacing s).service = s.service ∧
    (resumePacing s).setup = s.setup ∧ (resumePacing s).settings = s.settings ∧
    (resumePacing s).snapshots = s.snapshots ∧ (resumePacing s).flags = s.flags ∧
    (resumePacing s).pending = s.pending ∧ (resumePacing s).freeDraws = s.freeDraws ∧
    (resumePacing s).trunk.switch = s.trunk.switch ∧ (resumePacing s).trunk.queue = s.trunk.queue ∧
    (resumePacing s).trunk.waiting = s.trunk.waiting ∧ (resumePacing s).trunk.sending = s.trunk.sending ∧
    (resumePacing s).trunk.gapStart = s.trunk.gapStart ∧
    (resumePacing s).trunk.repeaterOff = s.trunk.repeaterOff := by
  unfold resumePacing; split <;> simp

@[simp] theorem openRound_frame (round start period : Nat) (s : State) :
    (openRound round start period s).powered = s.powered ∧ (openRound round start period s).pins = s.pins ∧
    (openRound round start period s).clock = s.clock ∧ (openRound round start period s).tb = s.tb ∧
    (openRound round start period s).station = s.station ∧ (openRound round start period s).roster = s.roster ∧
    (openRound round start period s).inb = s.inb ∧ (openRound round start period s).mem = s.mem ∧
    (openRound round start period s).trig = s.trig ∧ (openRound round start period s).frame = s.frame ∧
    (openRound round start period s).service = s.service ∧ (openRound round start period s).setup = s.setup ∧
    (openRound round start period s).settings = s.settings ∧
    (openRound round start period s).snapshots = s.snapshots ∧
    (openRound round start period s).pending = s.pending ∧
    (openRound round start period s).freeDraws = s.freeDraws ∧
    (openRound round start period s).trunk.switch = s.trunk.switch ∧
    (openRound round start period s).trunk.sending = s.trunk.sending ∧
    (openRound round start period s).guard.state = s.guard.state ∧
    (openRound round start period s).guard.thresholds = s.guard.thresholds ∧
    (openRound round start period s).map.entries = s.map.entries ∧
    (openRound round start period s).map.epoch = s.map.epoch ∧
    (openRound round start period s).map.resync = s.map.resync := by
  unfold openRound; (try dsimp only); (repeat' split) <;> simp

@[simp] theorem countSent_frame (s : State) :
    (countSent s).powered = s.powered ∧ (countSent s).pins = s.pins ∧ (countSent s).clock = s.clock ∧
    (countSent s).framer = s.framer ∧ (countSent s).tb = s.tb ∧ (countSent s).station = s.station ∧
    (countSent s).progress = s.progress ∧ (countSent s).roster = s.roster ∧
    (countSent s).rollCall = s.rollCall ∧ (countSent s).map = s.map ∧ (countSent s).out = s.out ∧
    (countSent s).inb = s.inb ∧ (countSent s).mem = s.mem ∧ (countSent s).trig = s.trig ∧
    (countSent s).guard = s.guard ∧ (countSent s).frame = s.frame ∧ (countSent s).service = s.service ∧
    (countSent s).setup = s.setup ∧ (countSent s).settings = s.settings ∧
    (countSent s).snapshots = s.snapshots ∧ (countSent s).flags = s.flags ∧ (countSent s).pending = s.pending ∧
    (countSent s).freeDraws = s.freeDraws ∧
    (countSent s).trunk.switch = s.trunk.switch ∧ (countSent s).trunk.sending = s.trunk.sending ∧
    (countSent s).trunk.queue = s.trunk.queue ∧ (countSent s).trunk.waiting = s.trunk.waiting := by
  unfold countSent; (try dsimp only); (repeat' split) <;> simp

@[simp] theorem offer_frame (rival : Option ArbKey) (s : State) :
    (offer rival s).powered = s.powered ∧ (offer rival s).pins = s.pins ∧ (offer rival s).clock = s.clock ∧
    (offer rival s).framer = s.framer ∧ (offer rival s).tb = s.tb ∧ (offer rival s).station = s.station ∧
    (offer rival s).progress = s.progress ∧ (offer rival s).roster = s.roster ∧
    (offer rival s).rollCall = s.rollCall ∧ (offer rival s).map = s.map ∧ (offer rival s).out = s.out ∧
    (offer rival s).inb = s.inb ∧ (offer rival s).mem = s.mem ∧ (offer rival s).trig = s.trig ∧
    (offer rival s).guard = s.guard ∧ (offer rival s).frame = s.frame ∧ (offer rival s).service = s.service ∧
    (offer rival s).setup = s.setup ∧ (offer rival s).settings = s.settings ∧
    (offer rival s).snapshots = s.snapshots ∧ (offer rival s).flags = s.flags ∧
    (offer rival s).pending = s.pending ∧
    (offer rival s).freeDraws = s.freeDraws ∧ (offer rival s).trunk.switch = s.trunk.switch ∧
    (offer rival s).trunk.queue = s.trunk.queue ∧ (offer rival s).trunk.waiting = s.trunk.waiting := by
  unfold offer; (try dsimp only); (repeat' split) <;> simp

@[simp] theorem packetLost_frame (s : State) :
    (packetLost s).powered = s.powered ∧ (packetLost s).pins = s.pins ∧ (packetLost s).clock = s.clock ∧
    (packetLost s).rollCall = s.rollCall ∧ (packetLost s).mem = s.mem ∧ (packetLost s).frame = s.frame ∧
    (packetLost s).service = s.service ∧ (packetLost s).setup = s.setup ∧ (packetLost s).settings = s.settings ∧
    (packetLost s).pending = s.pending ∧ (packetLost s).trunk.switch = s.trunk.switch ∧
    (packetLost s).tb.election = s.tb.election ∧ (packetLost s).tb.period = s.tb.period ∧
    (packetLost s).framer.round = s.framer.round ∧ (packetLost s).framer.opening = s.framer.opening ∧
    (packetLost s).guard.thresholds = s.guard.thresholds ∧ (packetLost s).trig.settings = s.trig.settings ∧
    (packetLost s).trig.filtered = s.trig.filtered := by
  unfold packetLost; (try dsimp only); (repeat' split) <;> simp

end Sys2Proof.Machine
end

