-- ==== Sys2Proof/Laws/FrameEvents.lean ====
section
/-! SUPPORT. What each function leaves unchanged, field by field (packets, setup, round events, timeouts, triggers, ports). -/
namespace Sys2Proof.Machine

@[simp] theorem sampleTaken_frame (p : Sample) (failed : Bool) (s : State) :
    (sampleTaken p failed s).powered = s.powered ∧ (sampleTaken p failed s).pins = s.pins ∧
    (sampleTaken p failed s).clock = s.clock ∧ (sampleTaken p failed s).framer = s.framer ∧
    (sampleTaken p failed s).tb = s.tb ∧ (sampleTaken p failed s).roster = s.roster ∧
    (sampleTaken p failed s).rollCall = s.rollCall ∧ (sampleTaken p failed s).trig = s.trig ∧
    (sampleTaken p failed s).guard = s.guard ∧ (sampleTaken p failed s).frame = s.frame ∧
    (sampleTaken p failed s).service = s.service ∧ (sampleTaken p failed s).setup = s.setup ∧
    (sampleTaken p failed s).settings = s.settings ∧ (sampleTaken p failed s).snapshots = s.snapshots ∧
    (sampleTaken p failed s).pending = s.pending ∧
    (sampleTaken p failed s).freeDraws = s.freeDraws ∧ (sampleTaken p failed s).trunk.switch = s.trunk.switch ∧
    (sampleTaken p failed s).trunk.sending = s.trunk.sending ∧
    (sampleTaken p failed s).map.entries = s.map.entries ∧ (sampleTaken p failed s).map.epoch = s.map.epoch := by
  unfold sampleTaken; (try dsimp only); (repeat' split) <;> simp

@[simp] theorem hearFailed_frame (h : Heard) (s : State) :
    (hearFailed h s).powered = s.powered ∧ (hearFailed h s).pins = s.pins ∧ (hearFailed h s).clock = s.clock ∧
    (hearFailed h s).framer = s.framer ∧ (hearFailed h s).tb = s.tb ∧ (hearFailed h s).roster = s.roster ∧
    (hearFailed h s).rollCall = s.rollCall ∧ (hearFailed h s).trig = s.trig ∧
    (hearFailed h s).frame = s.frame ∧ (hearFailed h s).service = s.service ∧
    (hearFailed h s).setup = s.setup ∧ (hearFailed h s).settings = s.settings ∧
    (hearFailed h s).snapshots = s.snapshots ∧ (hearFailed h s).pending = s.pending ∧
    (hearFailed h s).freeDraws = s.freeDraws ∧
    (hearFailed h s).trunk.switch = s.trunk.switch ∧ (hearFailed h s).trunk.sending = s.trunk.sending ∧
    (hearFailed h s).guard.interval = s.guard.interval ∧
    (hearFailed h s).guard.thresholds = s.guard.thresholds ∧ (hearFailed h s).map.entries = s.map.entries ∧
    (hearFailed h s).map.epoch = s.map.epoch := by
  unfold hearFailed; (try dsimp only); (repeat' split) <;> simp

@[simp] theorem checkView_frame (m : Mark) (s : State) :
    (checkView m s).powered = s.powered ∧ (checkView m s).pins = s.pins ∧ (checkView m s).clock = s.clock ∧
    (checkView m s).framer = s.framer ∧ (checkView m s).tb = s.tb ∧ (checkView m s).roster = s.roster ∧
    (checkView m s).rollCall = s.rollCall ∧ (checkView m s).map = s.map ∧ (checkView m s).inb = s.inb ∧
    (checkView m s).mem = s.mem ∧ (checkView m s).trig = s.trig ∧ (checkView m s).guard = s.guard ∧
    (checkView m s).frame = s.frame ∧ (checkView m s).service = s.service ∧ (checkView m s).setup = s.setup ∧
    (checkView m s).settings = s.settings ∧ (checkView m s).snapshots = s.snapshots ∧
    (checkView m s).pending = s.pending ∧
    (checkView m s).freeDraws = s.freeDraws ∧ (checkView m s).trunk.switch = s.trunk.switch ∧
    (checkView m s).trunk.sending = s.trunk.sending := by
  unfold checkView; (try dsimp only); (repeat' split) <;> simp

@[simp] theorem handOnMark_frame (m : Mark) (s : State) :
    (handOnMark m s).powered = s.powered ∧ (handOnMark m s).pins = s.pins ∧ (handOnMark m s).clock = s.clock ∧
    (handOnMark m s).framer = s.framer ∧ (handOnMark m s).rollCall = s.rollCall ∧ (handOnMark m s).mem = s.mem ∧
    (handOnMark m s).frame = s.frame ∧ (handOnMark m s).service = s.service ∧ (handOnMark m s).setup = s.setup ∧
    (handOnMark m s).settings = s.settings ∧ (handOnMark m s).snapshots = s.snapshots ∧
    (handOnMark m s).pending = s.pending ∧ (handOnMark m s).trunk.switch = s.trunk.switch ∧
    (handOnMark m s).trunk.sending = s.trunk.sending ∧ (handOnMark m s).tb.role = s.tb.role ∧
    (handOnMark m s).tb.designated = s.tb.designated ∧ (handOnMark m s).tb.period = s.tb.period ∧
    (handOnMark m s).guard.thresholds = s.guard.thresholds ∧ (handOnMark m s).tb.lock = s.tb.lock ∧
    (handOnMark m s).tb.missed = s.tb.missed ∧ (handOnMark m s).tb.expected = s.tb.expected ∧
    (handOnMark m s).tb.markDue = s.tb.markDue ∧ (handOnMark m s).tb.orphan = s.tb.orphan ∧
    (handOnMark m s).trig.settings = s.trig.settings ∧ (handOnMark m s).trig.filtered = s.trig.filtered := by
  unfold handOnMark; (try dsimp only); (repeat' split) <;> simp

@[simp] theorem adoptSource_frame (j : StationId) (s : State) :
    (adoptSource j s).powered = s.powered ∧ (adoptSource j s).pins = s.pins ∧
    (adoptSource j s).clock = s.clock ∧ (adoptSource j s).trunk = s.trunk ∧
    (adoptSource j s).framer = s.framer ∧ (adoptSource j s).station = s.station ∧
    (adoptSource j s).progress = s.progress ∧ (adoptSource j s).rollCall = s.rollCall ∧
    (adoptSource j s).map = s.map ∧ (adoptSource j s).out = s.out ∧ (adoptSource j s).inb = s.inb ∧
    (adoptSource j s).mem = s.mem ∧ (adoptSource j s).trig = s.trig ∧ (adoptSource j s).guard = s.guard ∧
    (adoptSource j s).frame = s.frame ∧ (adoptSource j s).service = s.service ∧
    (adoptSource j s).setup = s.setup ∧ (adoptSource j s).settings = s.settings ∧
    (adoptSource j s).snapshots = s.snapshots ∧ (adoptSource j s).pending = s.pending ∧
    (adoptSource j s).freeDraws = s.freeDraws ∧
    (adoptSource j s).tb.role = s.tb.role ∧ (adoptSource j s).tb.election = s.tb.election ∧
    (adoptSource j s).tb.period = s.tb.period ∧ (adoptSource j s).tb.lock = s.tb.lock ∧
    (adoptSource j s).tb.listen = s.tb.listen ∧ (adoptSource j s).tb.missed = s.tb.missed ∧
    (adoptSource j s).tb.expected = s.tb.expected ∧ (adoptSource j s).tb.markDue = s.tb.markDue ∧
    (adoptSource j s).tb.orphan = s.tb.orphan := by
  unfold adoptSource; (try dsimp only); (repeat' split) <;> simp

@[simp] theorem follow_frame (m : Mark) (received : Nat) (s : State) :
    (follow m received s).powered = s.powered ∧ (follow m received s).pins = s.pins ∧
    (follow m received s).mem = s.mem ∧ (follow m received s).frame = s.frame ∧
    (follow m received s).service = s.service ∧ (follow m received s).setup = s.setup ∧
    (follow m received s).settings = s.settings ∧ (follow m received s).pending = s.pending ∧
    (follow m received s).trunk.switch = s.trunk.switch ∧
    (follow m received s).trunk.sending = s.trunk.sending ∧
    (follow m received s).guard.thresholds = s.guard.thresholds ∧
    (follow m received s).trig.settings = s.trig.settings ∧
    (follow m received s).trig.filtered = s.trig.filtered := by
  unfold follow; (try dsimp only); (repeat' split) <;> simp

@[simp] theorem sourceTakesMark_frame (m : Mark) (received : Nat) (s : State) :
    (sourceTakesMark m received s).powered = s.powered ∧ (sourceTakesMark m received s).pins = s.pins ∧
    (sourceTakesMark m received s).mem = s.mem ∧ (sourceTakesMark m received s).frame = s.frame ∧
    (sourceTakesMark m received s).service = s.service ∧ (sourceTakesMark m received s).setup = s.setup ∧
    (sourceTakesMark m received s).settings = s.settings ∧ (sourceTakesMark m received s).pending = s.pending ∧
    (sourceTakesMark m received s).trunk.switch = s.trunk.switch ∧
    (sourceTakesMark m received s).trunk.sending = s.trunk.sending ∧
    (sourceTakesMark m received s).guard.thresholds = s.guard.thresholds ∧
    (sourceTakesMark m received s).trig.settings = s.trig.settings ∧
    (sourceTakesMark m received s).trig.filtered = s.trig.filtered := by
  unfold sourceTakesMark; (try dsimp only); (repeat' split) <;> simp

@[simp] theorem otherMarkTaken_frame (m : Mark) (received : Nat) (s : State) :
    (otherMarkTaken m received s).powered = s.powered ∧ (otherMarkTaken m received s).pins = s.pins ∧
    (otherMarkTaken m received s).mem = s.mem ∧ (otherMarkTaken m received s).frame = s.frame ∧
    (otherMarkTaken m received s).service = s.service ∧ (otherMarkTaken m received s).setup = s.setup ∧
    (otherMarkTaken m received s).settings = s.settings ∧ (otherMarkTaken m received s).pending = s.pending ∧
    (otherMarkTaken m received s).trunk.switch = s.trunk.switch ∧
    (otherMarkTaken m received s).trunk.sending = s.trunk.sending ∧
    (otherMarkTaken m received s).guard.thresholds = s.guard.thresholds ∧
    (otherMarkTaken m received s).trig.settings = s.trig.settings ∧
    (otherMarkTaken m received s).trig.filtered = s.trig.filtered := by
  unfold otherMarkTaken; (try dsimp only); (repeat' split) <;> simp

@[simp] theorem ownMarkTaken_frame (m : Mark) (s : State) :
    (ownMarkTaken m s).powered = s.powered ∧ (ownMarkTaken m s).pins = s.pins ∧
    (ownMarkTaken m s).clock = s.clock ∧ (ownMarkTaken m s).trunk = s.trunk ∧
    (ownMarkTaken m s).framer = s.framer ∧ (ownMarkTaken m s).station = s.station ∧
    (ownMarkTaken m s).progress = s.progress ∧ (ownMarkTaken m s).roster = s.roster ∧
    (ownMarkTaken m s).rollCall = s.rollCall ∧ (ownMarkTaken m s).map = s.map ∧
    (ownMarkTaken m s).out = s.out ∧ (ownMarkTaken m s).inb = s.inb ∧ (ownMarkTaken m s).mem = s.mem ∧
    (ownMarkTaken m s).trig = s.trig ∧ (ownMarkTaken m s).guard = s.guard ∧
    (ownMarkTaken m s).frame = s.frame ∧ (ownMarkTaken m s).service = s.service ∧
    (ownMarkTaken m s).setup = s.setup ∧ (ownMarkTaken m s).settings = s.settings ∧
    (ownMarkTaken m s).snapshots = s.snapshots ∧ (ownMarkTaken m s).flags = s.flags ∧
    (ownMarkTaken m s).pending = s.pending ∧
    (ownMarkTaken m s).freeDraws = s.freeDraws ∧ (ownMarkTaken m s).tb.role = s.tb.role ∧
    (ownMarkTaken m s).tb.designated = s.tb.designated ∧ (ownMarkTaken m s).tb.election = s.tb.election ∧
    (ownMarkTaken m s).tb.period = s.tb.period ∧ (ownMarkTaken m s).tb.lock = s.tb.lock ∧
    (ownMarkTaken m s).tb.listen = s.tb.listen ∧ (ownMarkTaken m s).tb.expected = s.tb.expected ∧
    (ownMarkTaken m s).tb.markDue = s.tb.markDue ∧ (ownMarkTaken m s).tb.orphan = s.tb.orphan := by
  unfold ownMarkTaken; (try dsimp only); (repeat' split) <;> simp

@[simp] theorem takeoverTaken_frame (t : Takeover) (received : Nat) (s : State) :
    (takeoverTaken t received s).powered = s.powered ∧ (takeoverTaken t received s).pins = s.pins ∧
    (takeoverTaken t received s).clock = s.clock ∧ (takeoverTaken t received s).framer = s.framer ∧
    (takeoverTaken t received s).rollCall = s.rollCall ∧ (takeoverTaken t received s).mem = s.mem ∧
    (takeoverTaken t received s).frame = s.frame ∧ (takeoverTaken t received s).service = s.service ∧
    (takeoverTaken t received s).setup = s.setup ∧ (takeoverTaken t received s).settings = s.settings ∧
    (takeoverTaken t received s).snapshots = s.snapshots ∧ (takeoverTaken t received s).pending = s.pending ∧
    (takeoverTaken t received s).freeDraws = s.freeDraws ∧
    (takeoverTaken t received s).trunk.switch = s.trunk.switch ∧
    (takeoverTaken t received s).trunk.sending = s.trunk.sending ∧
    (takeoverTaken t received s).tb.role = s.tb.role ∧
    (takeoverTaken t received s).guard.thresholds = s.guard.thresholds ∧
    (takeoverTaken t received s).tb.lock = s.tb.lock ∧ (takeoverTaken t received s).tb.markDue = s.tb.markDue ∧
    (takeoverTaken t received s).trig.settings = s.trig.settings ∧
    (takeoverTaken t received s).trig.filtered = s.trig.filtered := by
  unfold takeoverTaken; (try dsimp only); (repeat' split) <;> simp

@[simp] theorem otherTakeover_frame (t : Takeover) (received : Nat) (s : State) :
    (otherTakeover t received s).powered = s.powered ∧ (otherTakeover t received s).pins = s.pins ∧
    (otherTakeover t received s).clock = s.clock ∧ (otherTakeover t received s).rollCall = s.rollCall ∧
    (otherTakeover t received s).mem = s.mem ∧ (otherTakeover t received s).frame = s.frame ∧
    (otherTakeover t received s).service = s.service ∧ (otherTakeover t received s).setup = s.setup ∧
    (otherTakeover t received s).settings = s.settings ∧ (otherTakeover t received s).pending = s.pending ∧
    (otherTakeover t received s).trunk.switch = s.trunk.switch ∧
    (otherTakeover t received s).trunk.sending = s.trunk.sending ∧
    (otherTakeover t received s).tb.role = s.tb.role ∧
    (otherTakeover t received s).framer.round = s.framer.round ∧
    (otherTakeover t received s).framer.opening = s.framer.opening ∧
    (otherTakeover t received s).guard.thresholds = s.guard.thresholds ∧
    (otherTakeover t received s).tb.lock = s.tb.lock ∧ (otherTakeover t received s).tb.markDue = s.tb.markDue ∧
    (otherTakeover t received s).trig.settings = s.trig.settings ∧
    (otherTakeover t received s).trig.filtered = s.trig.filtered := by
  unfold otherTakeover; (try dsimp only); (repeat' split) <;> simp

@[simp] theorem emptyTrunkTaken_frame (t : Takeover) (s : State) :
    (emptyTrunkTaken t s).powered = s.powered ∧ (emptyTrunkTaken t s).pins = s.pins ∧
    (emptyTrunkTaken t s).clock = s.clock ∧ (emptyTrunkTaken t s).framer = s.framer ∧
    (emptyTrunkTaken t s).rollCall = s.rollCall ∧ (emptyTrunkTaken t s).mem = s.mem ∧
    (emptyTrunkTaken t s).trig.pendingTrigger = s.trig.pendingTrigger ∧
    (emptyTrunkTaken t s).trig.settings = s.trig.settings ∧
    (emptyTrunkTaken t s).trig.filtered = s.trig.filtered ∧ (emptyTrunkTaken t s).frame = s.frame ∧
    (emptyTrunkTaken t s).service = s.service ∧ (emptyTrunkTaken t s).setup = s.setup ∧
    (emptyTrunkTaken t s).settings = s.settings ∧ (emptyTrunkTaken t s).snapshots = s.snapshots ∧
    (emptyTrunkTaken t s).pending = s.pending ∧ (emptyTrunkTaken t s).trunk.switch = s.trunk.switch ∧
    (emptyTrunkTaken t s).trunk.sending = s.trunk.sending ∧ (emptyTrunkTaken t s).guard.state = s.guard.state ∧
    (emptyTrunkTaken t s).guard.interval = s.guard.interval ∧
    (emptyTrunkTaken t s).guard.thresholds = s.guard.thresholds ∧
    (emptyTrunkTaken t s).map.entries = s.map.entries ∧
    (emptyTrunkTaken t s).progress.leaveClosingDue = s.progress.leaveClosingDue ∧
    (emptyTrunkTaken t s).progress.leavingDue = s.progress.leavingDue ∧
    (emptyTrunkTaken t s).progress.ownLeaveTaken = s.progress.ownLeaveTaken := by
  unfold emptyTrunkTaken; (try dsimp only); (repeat' split) <;> simp

@[simp] theorem electionWon_frame (t : Takeover) (s : State) :
    (electionWon t s).powered = s.powered ∧ (electionWon t s).pins = s.pins ∧
    (electionWon t s).clock = s.clock ∧ (electionWon t s).framer = s.framer ∧
    (electionWon t s).station = s.station ∧ (electionWon t s).progress = s.progress ∧
    (electionWon t s).rollCall = s.rollCall ∧ (electionWon t s).mem = s.mem ∧ (electionWon t s).trig = s.trig ∧
    (electionWon t s).guard = s.guard ∧ (electionWon t s).frame = s.frame ∧
    (electionWon t s).service = s.service ∧ (electionWon t s).setup = s.setup ∧
    (electionWon t s).settings = s.settings ∧ (electionWon t s).snapshots = s.snapshots ∧
    (electionWon t s).pending = s.pending ∧ (electionWon t s).trunk.switch = s.trunk.switch ∧
    (electionWon t s).trunk.sending = s.trunk.sending ∧ (electionWon t s).map.entries = s.map.entries ∧
    (electionWon t s).map.epoch = s.map.epoch := by
  unfold electionWon; (try dsimp only); (repeat' split) <;> simp

@[simp] theorem ownTakeover_frame (t : Takeover) (e : Option QueueEntry) (s : State) :
    (ownTakeover t e s).powered = s.powered ∧ (ownTakeover t e s).pins = s.pins ∧
    (ownTakeover t e s).clock = s.clock ∧ (ownTakeover t e s).framer = s.framer ∧
    (ownTakeover t e s).rollCall = s.rollCall ∧ (ownTakeover t e s).mem = s.mem ∧
    (ownTakeover t e s).trig.pendingTrigger = s.trig.pendingTrigger ∧
    (ownTakeover t e s).trig.settings = s.trig.settings ∧ (ownTakeover t e s).trig.filtered = s.trig.filtered ∧
    (ownTakeover t e s).frame = s.frame ∧ (ownTakeover t e s).service = s.service ∧
    (ownTakeover t e s).setup = s.setup ∧ (ownTakeover t e s).settings = s.settings ∧
    (ownTakeover t e s).snapshots = s.snapshots ∧ (ownTakeover t e s).pending = s.pending ∧
    (ownTakeover t e s).trunk.switch = s.trunk.switch ∧ (ownTakeover t e s).trunk.sending = s.trunk.sending ∧
    (ownTakeover t e s).guard.state = s.guard.state ∧ (ownTakeover t e s).guard.interval = s.guard.interval ∧
    (ownTakeover t e s).guard.thresholds = s.guard.thresholds ∧
    (ownTakeover t e s).map.entries = s.map.entries ∧
    (ownTakeover t e s).progress.leaveClosingDue = s.progress.leaveClosingDue ∧
    (ownTakeover t e s).progress.leavingDue = s.progress.leavingDue ∧
    (ownTakeover t e s).progress.ownLeaveTaken = s.progress.ownLeaveTaken := by
  unfold ownTakeover; (try dsimp only); (repeat' split) <;> simp

@[simp] theorem expectSuccessor_frame (j : StationId) (h : Handoff) (s : State) :
    (expectSuccessor j h s).powered = s.powered ∧ (expectSuccessor j h s).pins = s.pins ∧
    (expectSuccessor j h s).clock = s.clock ∧ (expectSuccessor j h s).trunk = s.trunk ∧
    (expectSuccessor j h s).framer = s.framer ∧ (expectSuccessor j h s).station = s.station ∧
    (expectSuccessor j h s).progress = s.progress ∧ (expectSuccessor j h s).rollCall = s.rollCall ∧
    (expectSuccessor j h s).map = s.map ∧ (expectSuccessor j h s).out = s.out ∧
    (expectSuccessor j h s).inb = s.inb ∧ (expectSuccessor j h s).mem = s.mem ∧
    (expectSuccessor j h s).trig = s.trig ∧ (expectSuccessor j h s).guard = s.guard ∧
    (expectSuccessor j h s).frame = s.frame ∧ (expectSuccessor j h s).service = s.service ∧
    (expectSuccessor j h s).setup = s.setup ∧ (expectSuccessor j h s).settings = s.settings ∧
    (expectSuccessor j h s).snapshots = s.snapshots ∧ (expectSuccessor j h s).pending = s.pending ∧
    (expectSuccessor j h s).freeDraws = s.freeDraws ∧
    (expectSuccessor j h s).tb.role = s.tb.role ∧ (expectSuccessor j h s).tb.election = s.tb.election ∧
    (expectSuccessor j h s).tb.period = s.tb.period ∧ (expectSuccessor j h s).tb.lock = s.tb.lock ∧
    (expectSuccessor j h s).tb.listen = s.tb.listen ∧ (expectSuccessor j h s).tb.markDue = s.tb.markDue ∧
    (expectSuccessor j h s).tb.orphan = s.tb.orphan := by
  unfold expectSuccessor; (try dsimp only); (repeat' split) <;> simp

@[simp] theorem handoffTaken_frame (h : Handoff) (s : State) :
    (handoffTaken h s).powered = s.powered ∧ (handoffTaken h s).pins = s.pins ∧
    (handoffTaken h s).clock = s.clock ∧ (handoffTaken h s).rollCall = s.rollCall ∧
    (handoffTaken h s).mem = s.mem ∧ (handoffTaken h s).frame = s.frame ∧
    (handoffTaken h s).service = s.service ∧ (handoffTaken h s).setup = s.setup ∧
    (handoffTaken h s).settings = s.settings ∧ (handoffTaken h s).pending = s.pending ∧
    (handoffTaken h s).trunk.switch = s.trunk.switch ∧ (handoffTaken h s).trunk.sending = s.trunk.sending ∧
    (handoffTaken h s).framer.round = s.framer.round ∧ (handoffTaken h s).framer.opening = s.framer.opening ∧
    (handoffTaken h s).guard.thresholds = s.guard.thresholds ∧
    (handoffTaken h s).trig.settings = s.trig.settings ∧ (handoffTaken h s).trig.filtered = s.trig.filtered := by
  unfold handoffTaken; (try dsimp only); (repeat' split) <;> simp

@[simp] theorem otherHandoff_frame (h : Handoff) (s : State) :
    (otherHandoff h s).powered = s.powered ∧ (otherHandoff h s).pins = s.pins ∧
    (otherHandoff h s).clock = s.clock ∧ (otherHandoff h s).rollCall = s.rollCall ∧
    (otherHandoff h s).mem = s.mem ∧ (otherHandoff h s).frame = s.frame ∧
    (otherHandoff h s).service = s.service ∧ (otherHandoff h s).setup = s.setup ∧
    (otherHandoff h s).settings = s.settings ∧ (otherHandoff h s).pending = s.pending ∧
    (otherHandoff h s).trunk.switch = s.trunk.switch ∧ (otherHandoff h s).trunk.sending = s.trunk.sending ∧
    (otherHandoff h s).framer.round = s.framer.round ∧ (otherHandoff h s).framer.opening = s.framer.opening ∧
    (otherHandoff h s).guard.thresholds = s.guard.thresholds ∧
    (otherHandoff h s).trig.settings = s.trig.settings ∧ (otherHandoff h s).trig.filtered = s.trig.filtered := by
  unfold otherHandoff; (try dsimp only); (repeat' split) <;> simp

@[simp] theorem ownHandoff_frame (h : Handoff) (s : State) :
    (ownHandoff h s).powered = s.powered ∧ (ownHandoff h s).pins = s.pins ∧ (ownHandoff h s).clock = s.clock ∧
    (ownHandoff h s).rollCall = s.rollCall ∧ (ownHandoff h s).mem = s.mem ∧ (ownHandoff h s).frame = s.frame ∧
    (ownHandoff h s).service = s.service ∧ (ownHandoff h s).setup = s.setup ∧
    (ownHandoff h s).settings = s.settings ∧ (ownHandoff h s).pending = s.pending ∧
    (ownHandoff h s).trunk.switch = s.trunk.switch ∧ (ownHandoff h s).trunk.sending = s.trunk.sending ∧
    (ownHandoff h s).tb.election = s.tb.election ∧ (ownHandoff h s).tb.period = s.tb.period ∧
    (ownHandoff h s).framer.round = s.framer.round ∧ (ownHandoff h s).framer.opening = s.framer.opening ∧
    (ownHandoff h s).guard.thresholds = s.guard.thresholds ∧ (ownHandoff h s).trig.settings = s.trig.settings ∧
    (ownHandoff h s).trig.filtered = s.trig.filtered := by
  unfold ownHandoff; (try dsimp only); (repeat' split) <;> simp

@[simp] theorem idConflict_frame (s : State) :
    (idConflict s).powered = s.powered ∧ (idConflict s).pins = s.pins ∧ (idConflict s).clock = s.clock ∧
    (idConflict s).trunk = s.trunk ∧ (idConflict s).framer = s.framer ∧ (idConflict s).rollCall = s.rollCall ∧
    (idConflict s).mem = s.mem ∧ (idConflict s).frame = s.frame ∧ (idConflict s).service = s.service ∧
    (idConflict s).setup = s.setup ∧ (idConflict s).settings = s.settings ∧
    (idConflict s).snapshots = s.snapshots ∧ (idConflict s).pending = s.pending ∧
    (idConflict s).freeDraws = s.freeDraws ∧
    (idConflict s).tb.role = s.tb.role ∧ (idConflict s).tb.designated = s.tb.designated ∧
    (idConflict s).tb.election = s.tb.election ∧ (idConflict s).tb.period = s.tb.period ∧
    (idConflict s).guard.thresholds = s.guard.thresholds ∧ (idConflict s).tb.lock = s.tb.lock ∧
    (idConflict s).tb.missed = s.tb.missed ∧ (idConflict s).tb.expected = s.tb.expected ∧
    (idConflict s).tb.markDue = s.tb.markDue ∧ (idConflict s).tb.orphan = s.tb.orphan ∧
    (idConflict s).trig.settings = s.trig.settings ∧ (idConflict s).trig.filtered = s.trig.filtered := by
  unfold idConflict; (try dsimp only); (repeat' split) <;> simp

@[simp] theorem wordTaken_frame (p : Presence) (s : State) :
    (wordTaken p s).powered = s.powered ∧ (wordTaken p s).pins = s.pins ∧ (wordTaken p s).clock = s.clock ∧
    (wordTaken p s).framer = s.framer ∧ (wordTaken p s).tb = s.tb ∧ (wordTaken p s).inb = s.inb ∧
    (wordTaken p s).mem = s.mem ∧ (wordTaken p s).trig = s.trig ∧ (wordTaken p s).guard = s.guard ∧
    (wordTaken p s).frame = s.frame ∧ (wordTaken p s).service = s.service ∧ (wordTaken p s).setup = s.setup ∧
    (wordTaken p s).settings = s.settings ∧ (wordTaken p s).snapshots = s.snapshots ∧
    (wordTaken p s).pending = s.pending ∧
    (wordTaken p s).freeDraws = s.freeDraws ∧ (wordTaken p s).trunk.switch = s.trunk.switch ∧
    (wordTaken p s).trunk.sending = s.trunk.sending ∧ (wordTaken p s).map.entries = s.map.entries ∧
    (wordTaken p s).map.epoch = s.map.epoch := by
  unfold wordTaken; (try dsimp only); (repeat' split) <;> simp

@[simp] theorem otherWord_frame (p : Presence) (s : State) :
    (otherWord p s).powered = s.powered ∧ (otherWord p s).pins = s.pins ∧ (otherWord p s).clock = s.clock ∧
    (otherWord p s).framer = s.framer ∧ (otherWord p s).mem = s.mem ∧ (otherWord p s).frame = s.frame ∧
    (otherWord p s).service = s.service ∧ (otherWord p s).setup = s.setup ∧
    (otherWord p s).settings = s.settings ∧ (otherWord p s).snapshots = s.snapshots ∧
    (otherWord p s).pending = s.pending ∧
    (otherWord p s).freeDraws = s.freeDraws ∧ (otherWord p s).trunk.switch = s.trunk.switch ∧
    (otherWord p s).trunk.sending = s.trunk.sending ∧ (otherWord p s).tb.role = s.tb.role ∧
    (otherWord p s).tb.designated = s.tb.designated ∧ (otherWord p s).tb.election = s.tb.election ∧
    (otherWord p s).tb.period = s.tb.period ∧ (otherWord p s).guard.thresholds = s.guard.thresholds ∧
    (otherWord p s).tb.lock = s.tb.lock ∧ (otherWord p s).tb.missed = s.tb.missed ∧
    (otherWord p s).tb.expected = s.tb.expected ∧ (otherWord p s).tb.markDue = s.tb.markDue ∧
    (otherWord p s).tb.orphan = s.tb.orphan ∧ (otherWord p s).trig.settings = s.trig.settings ∧
    (otherWord p s).trig.filtered = s.trig.filtered := by
  unfold otherWord; (try dsimp only); (repeat' split) <;> simp

@[simp] theorem ownWord_frame (s : State) :
    (ownWord s).powered = s.powered ∧ (ownWord s).pins = s.pins ∧ (ownWord s).clock = s.clock ∧
    (ownWord s).trunk = s.trunk ∧ (ownWord s).framer = s.framer ∧ (ownWord s).tb = s.tb ∧
    (ownWord s).station = s.station ∧ (ownWord s).roster = s.roster ∧ (ownWord s).rollCall = s.rollCall ∧
    (ownWord s).map = s.map ∧ (ownWord s).out = s.out ∧ (ownWord s).inb = s.inb ∧ (ownWord s).mem = s.mem ∧
    (ownWord s).trig = s.trig ∧ (ownWord s).guard = s.guard ∧ (ownWord s).frame = s.frame ∧
    (ownWord s).service = s.service ∧ (ownWord s).setup = s.setup ∧ (ownWord s).settings = s.settings ∧
    (ownWord s).snapshots = s.snapshots ∧ (ownWord s).flags = s.flags ∧ (ownWord s).pending = s.pending ∧
    (ownWord s).freeDraws = s.freeDraws ∧
    (ownWord s).progress.leaveClosingDue = s.progress.leaveClosingDue ∧
    (ownWord s).progress.leavingDue = s.progress.leavingDue ∧
    (ownWord s).progress.ownLeaveTaken = s.progress.ownLeaveTaken := by
  unfold ownWord; (try dsimp only); (repeat' split) <;> simp

@[simp] theorem joinTaken_frame (j : Join) (s : State) :
    (joinTaken j s).powered = s.powered ∧ (joinTaken j s).pins = s.pins ∧ (joinTaken j s).clock = s.clock ∧
    (joinTaken j s).trunk = s.trunk ∧ (joinTaken j s).framer = s.framer ∧ (joinTaken j s).tb = s.tb ∧
    (joinTaken j s).station = s.station ∧ (joinTaken j s).progress = s.progress ∧
    (joinTaken j s).rollCall = s.rollCall ∧ (joinTaken j s).out = s.out ∧ (joinTaken j s).mem = s.mem ∧
    (joinTaken j s).trig = s.trig ∧ (joinTaken j s).guard = s.guard ∧ (joinTaken j s).frame = s.frame ∧
    (joinTaken j s).service = s.service ∧ (joinTaken j s).setup = s.setup ∧
    (joinTaken j s).settings = s.settings ∧ (joinTaken j s).snapshots = s.snapshots ∧
    (joinTaken j s).pending = s.pending ∧ (joinTaken j s).map.resync = s.map.resync := by
  unfold joinTaken; (try dsimp only); (repeat' split) <;> simp

@[simp] theorem otherJoin_frame (j : Join) (s : State) :
    (otherJoin j s).powered = s.powered ∧ (otherJoin j s).pins = s.pins ∧ (otherJoin j s).clock = s.clock ∧
    (otherJoin j s).trunk = s.trunk ∧ (otherJoin j s).framer = s.framer ∧ (otherJoin j s).tb = s.tb ∧
    (otherJoin j s).station = s.station ∧ (otherJoin j s).progress = s.progress ∧
    (otherJoin j s).rollCall = s.rollCall ∧ (otherJoin j s).out = s.out ∧ (otherJoin j s).mem = s.mem ∧
    (otherJoin j s).trig = s.trig ∧ (otherJoin j s).frame = s.frame ∧ (otherJoin j s).service = s.service ∧
    (otherJoin j s).setup = s.setup ∧ (otherJoin j s).settings = s.settings ∧
    (otherJoin j s).snapshots = s.snapshots ∧ (otherJoin j s).pending = s.pending ∧
    (otherJoin j s).guard.state = s.guard.state ∧ (otherJoin j s).guard.interval = s.guard.interval ∧
    (otherJoin j s).guard.thresholds = s.guard.thresholds ∧ (otherJoin j s).map.resync = s.map.resync := by
  unfold otherJoin; (try dsimp only); (repeat' split) <;> simp

@[simp] theorem ownJoin_frame (j : Join) (s : State) :
    (ownJoin j s).powered = s.powered ∧ (ownJoin j s).pins = s.pins ∧ (ownJoin j s).clock = s.clock ∧
    (ownJoin j s).framer = s.framer ∧ (ownJoin j s).tb = s.tb ∧ (ownJoin j s).rollCall = s.rollCall ∧
    (ownJoin j s).mem = s.mem ∧ (ownJoin j s).trig = s.trig ∧ (ownJoin j s).frame = s.frame ∧
    (ownJoin j s).service = s.service ∧ (ownJoin j s).setup = s.setup ∧ (ownJoin j s).settings = s.settings ∧
    (ownJoin j s).snapshots = s.snapshots ∧ (ownJoin j s).pending = s.pending ∧
    (ownJoin j s).trunk.switch = s.trunk.switch ∧ (ownJoin j s).trunk.sending = s.trunk.sending ∧
    (ownJoin j s).guard.state = s.guard.state ∧ (ownJoin j s).guard.interval = s.guard.interval ∧
    (ownJoin j s).guard.thresholds = s.guard.thresholds ∧ (ownJoin j s).map.resync = s.map.resync ∧
    (ownJoin j s).progress.leaveClosingDue = s.progress.leaveClosingDue ∧
    (ownJoin j s).progress.leavingDue = s.progress.leavingDue ∧
    (ownJoin j s).progress.ownLeaveTaken = s.progress.ownLeaveTaken := by
  unfold ownJoin; (try dsimp only); (repeat' split) <;> simp

@[simp] theorem leaveTaken_frame (i : StationId) (s : State) :
    (leaveTaken i s).powered = s.powered ∧ (leaveTaken i s).pins = s.pins ∧ (leaveTaken i s).clock = s.clock ∧
    (leaveTaken i s).trunk = s.trunk ∧ (leaveTaken i s).framer = s.framer ∧ (leaveTaken i s).tb = s.tb ∧
    (leaveTaken i s).station = s.station ∧ (leaveTaken i s).progress = s.progress ∧
    (leaveTaken i s).rollCall = s.rollCall ∧ (leaveTaken i s).out = s.out ∧ (leaveTaken i s).mem = s.mem ∧
    (leaveTaken i s).guard = s.guard ∧ (leaveTaken i s).frame = s.frame ∧ (leaveTaken i s).service = s.service ∧
    (leaveTaken i s).setup = s.setup ∧ (leaveTaken i s).settings = s.settings ∧
    (leaveTaken i s).snapshots = s.snapshots ∧ (leaveTaken i s).pending = s.pending ∧
    (leaveTaken i s).map.resync = s.map.resync ∧ (leaveTaken i s).trig.pendingTrigger = s.trig.pendingTrigger ∧
    (leaveTaken i s).trig.settings = s.trig.settings ∧ (leaveTaken i s).trig.filtered = s.trig.filtered := by
  unfold leaveTaken; (try dsimp only); (repeat' split) <;> simp

@[simp] theorem otherLeave_frame (l : Leave) (s : State) :
    (otherLeave l s).powered = s.powered ∧ (otherLeave l s).pins = s.pins ∧ (otherLeave l s).clock = s.clock ∧
    (otherLeave l s).trunk = s.trunk ∧ (otherLeave l s).framer = s.framer ∧ (otherLeave l s).tb = s.tb ∧
    (otherLeave l s).station = s.station ∧ (otherLeave l s).progress = s.progress ∧
    (otherLeave l s).rollCall = s.rollCall ∧ (otherLeave l s).out = s.out ∧ (otherLeave l s).mem = s.mem ∧
    (otherLeave l s).frame = s.frame ∧ (otherLeave l s).service = s.service ∧ (otherLeave l s).setup = s.setup ∧
    (otherLeave l s).settings = s.settings ∧ (otherLeave l s).snapshots = s.snapshots ∧
    (otherLeave l s).pending = s.pending ∧ (otherLeave l s).guard.state = s.guard.state ∧
    (otherLeave l s).guard.interval = s.guard.interval ∧
    (otherLeave l s).guard.thresholds = s.guard.thresholds ∧ (otherLeave l s).map.resync = s.map.resync ∧
    (otherLeave l s).trig.pendingTrigger = s.trig.pendingTrigger ∧
    (otherLeave l s).trig.settings = s.trig.settings ∧ (otherLeave l s).trig.filtered = s.trig.filtered := by
  unfold otherLeave; (try dsimp only); (repeat' split) <;> simp

@[simp] theorem ownLeave_frame (l : Leave) (s : State) :
    (ownLeave l s).powered = s.powered ∧ (ownLeave l s).pins = s.pins ∧ (ownLeave l s).clock = s.clock ∧
    (ownLeave l s).trunk = s.trunk ∧ (ownLeave l s).framer = s.framer ∧ (ownLeave l s).rollCall = s.rollCall ∧
    (ownLeave l s).mem = s.mem ∧ (ownLeave l s).frame = s.frame ∧ (ownLeave l s).service = s.service ∧
    (ownLeave l s).setup = s.setup ∧ (ownLeave l s).settings = s.settings ∧
    (ownLeave l s).snapshots = s.snapshots ∧ (ownLeave l s).pending = s.pending ∧
    (ownLeave l s).tb.role = s.tb.role ∧ (ownLeave l s).tb.designated = s.tb.designated ∧
    (ownLeave l s).tb.election = s.tb.election ∧ (ownLeave l s).tb.period = s.tb.period ∧
    (ownLeave l s).guard.thresholds = s.guard.thresholds ∧ (ownLeave l s).tb.lock = s.tb.lock ∧
    (ownLeave l s).tb.missed = s.tb.missed ∧ (ownLeave l s).tb.expected = s.tb.expected ∧
    (ownLeave l s).tb.markDue = s.tb.markDue ∧ (ownLeave l s).tb.orphan = s.tb.orphan ∧
    (ownLeave l s).trig.settings = s.trig.settings ∧ (ownLeave l s).trig.filtered = s.trig.filtered := by
  unfold ownLeave; (try dsimp only); (repeat' split) <;> simp

@[simp] theorem otherClaim_frame (c : Claim) (s : State) :
    (otherClaim c s).powered = s.powered ∧ (otherClaim c s).pins = s.pins ∧ (otherClaim c s).clock = s.clock ∧
    (otherClaim c s).trunk = s.trunk ∧ (otherClaim c s).framer = s.framer ∧ (otherClaim c s).tb = s.tb ∧
    (otherClaim c s).station = s.station ∧ (otherClaim c s).progress = s.progress ∧
    (otherClaim c s).roster = s.roster ∧ (otherClaim c s).rollCall = s.rollCall ∧ (otherClaim c s).out = s.out ∧
    (otherClaim c s).mem = s.mem ∧ (otherClaim c s).trig = s.trig ∧ (otherClaim c s).guard = s.guard ∧
    (otherClaim c s).frame = s.frame ∧ (otherClaim c s).service = s.service ∧ (otherClaim c s).setup = s.setup ∧
    (otherClaim c s).settings = s.settings ∧ (otherClaim c s).snapshots = s.snapshots ∧
    (otherClaim c s).pending = s.pending ∧ (otherClaim c s).map.resync = s.map.resync := by
  unfold otherClaim; (try dsimp only); (repeat' split) <;> simp

@[simp] theorem ownClaim_frame (c : Claim) (e : Option QueueEntry) (s : State) :
    (ownClaim c e s).powered = s.powered ∧ (ownClaim c e s).pins = s.pins ∧ (ownClaim c e s).clock = s.clock ∧
    (ownClaim c e s).framer = s.framer ∧ (ownClaim c e s).tb = s.tb ∧ (ownClaim c e s).station = s.station ∧
    (ownClaim c e s).progress = s.progress ∧ (ownClaim c e s).roster = s.roster ∧
    (ownClaim c e s).rollCall = s.rollCall ∧ (ownClaim c e s).mem = s.mem ∧ (ownClaim c e s).trig = s.trig ∧
    (ownClaim c e s).guard = s.guard ∧ (ownClaim c e s).frame = s.frame ∧ (ownClaim c e s).service = s.service ∧
    (ownClaim c e s).setup = s.setup ∧ (ownClaim c e s).settings = s.settings ∧
    (ownClaim c e s).snapshots = s.snapshots ∧ (ownClaim c e s).pending = s.pending ∧
    (ownClaim c e s).trunk.switch = s.trunk.switch ∧ (ownClaim c e s).trunk.sending = s.trunk.sending ∧
    (ownClaim c e s).map.resync = s.map.resync := by
  unfold ownClaim; (try dsimp only); (repeat' split) <;> simp

@[simp] theorem otherRelease_frame (r : Release) (s : State) :
    (otherRelease r s).powered = s.powered ∧ (otherRelease r s).pins = s.pins ∧
    (otherRelease r s).clock = s.clock ∧ (otherRelease r s).trunk = s.trunk ∧
    (otherRelease r s).framer = s.framer ∧ (otherRelease r s).tb = s.tb ∧
    (otherRelease r s).station = s.station ∧ (otherRelease r s).progress = s.progress ∧
    (otherRelease r s).roster = s.roster ∧ (otherRelease r s).rollCall = s.rollCall ∧
    (otherRelease r s).out = s.out ∧ (otherRelease r s).mem = s.mem ∧ (otherRelease r s).trig = s.trig ∧
    (otherRelease r s).guard = s.guard ∧ (otherRelease r s).frame = s.frame ∧
    (otherRelease r s).service = s.service ∧ (otherRelease r s).setup = s.setup ∧
    (otherRelease r s).settings = s.settings ∧ (otherRelease r s).snapshots = s.snapshots ∧
    (otherRelease r s).pending = s.pending ∧ (otherRelease r s).map.resync = s.map.resync := by
  unfold otherRelease; (try dsimp only); (repeat' split) <;> simp

@[simp] theorem ownRelease_frame (r : Release) (e : Option QueueEntry) (s : State) :
    (ownRelease r e s).powered = s.powered ∧ (ownRelease r e s).pins = s.pins ∧
    (ownRelease r e s).clock = s.clock ∧ (ownRelease r e s).trunk = s.trunk ∧
    (ownRelease r e s).framer = s.framer ∧ (ownRelease r e s).tb = s.tb ∧
    (ownRelease r e s).station = s.station ∧ (ownRelease r e s).progress = s.progress ∧
    (ownRelease r e s).roster = s.roster ∧ (ownRelease r e s).rollCall = s.rollCall ∧
    (ownRelease r e s).mem = s.mem ∧ (ownRelease r e s).trig = s.trig ∧ (ownRelease r e s).guard = s.guard ∧
    (ownRelease r e s).frame = s.frame ∧ (ownRelease r e s).service = s.service ∧
    (ownRelease r e s).setup = s.setup ∧ (ownRelease r e s).settings = s.settings ∧
    (ownRelease r e s).snapshots = s.snapshots ∧ (ownRelease r e s).pending = s.pending := by
  unfold ownRelease; (try dsimp only); (repeat' split) <;> simp

@[simp] theorem ownTrigger_frame (t : Trigger) (s : State) :
    (ownTrigger t s).powered = s.powered ∧ (ownTrigger t s).pins = s.pins ∧ (ownTrigger t s).clock = s.clock ∧
    (ownTrigger t s).trunk = s.trunk ∧ (ownTrigger t s).framer = s.framer ∧ (ownTrigger t s).tb = s.tb ∧
    (ownTrigger t s).station = s.station ∧ (ownTrigger t s).progress = s.progress ∧
    (ownTrigger t s).roster = s.roster ∧ (ownTrigger t s).rollCall = s.rollCall ∧
    (ownTrigger t s).map = s.map ∧ (ownTrigger t s).out = s.out ∧ (ownTrigger t s).inb = s.inb ∧
    (ownTrigger t s).mem = s.mem ∧ (ownTrigger t s).guard = s.guard ∧ (ownTrigger t s).frame = s.frame ∧
    (ownTrigger t s).service = s.service ∧ (ownTrigger t s).setup = s.setup ∧
    (ownTrigger t s).settings = s.settings ∧ (ownTrigger t s).snapshots = s.snapshots ∧
    (ownTrigger t s).flags = s.flags ∧ (ownTrigger t s).pending = s.pending ∧
    (ownTrigger t s).freeDraws = s.freeDraws ∧
    (ownTrigger t s).trig.settings = s.trig.settings ∧ (ownTrigger t s).trig.filtered = s.trig.filtered := by
  unfold ownTrigger; (try dsimp only); (repeat' split) <;> simp

@[simp] theorem otherTrigger_frame (t : Trigger) (s : State) :
    (otherTrigger t s).powered = s.powered ∧ (otherTrigger t s).pins = s.pins ∧
    (otherTrigger t s).clock = s.clock ∧ (otherTrigger t s).trunk = s.trunk ∧
    (otherTrigger t s).framer = s.framer ∧ (otherTrigger t s).tb = s.tb ∧
    (otherTrigger t s).station = s.station ∧ (otherTrigger t s).progress = s.progress ∧
    (otherTrigger t s).roster = s.roster ∧ (otherTrigger t s).rollCall = s.rollCall ∧
    (otherTrigger t s).map = s.map ∧ (otherTrigger t s).out = s.out ∧ (otherTrigger t s).mem = s.mem ∧
    (otherTrigger t s).guard = s.guard ∧ (otherTrigger t s).frame = s.frame ∧
    (otherTrigger t s).service = s.service ∧ (otherTrigger t s).setup = s.setup ∧
    (otherTrigger t s).settings = s.settings ∧ (otherTrigger t s).snapshots = s.snapshots ∧
    (otherTrigger t s).flags = s.flags ∧ (otherTrigger t s).pending = s.pending ∧
    (otherTrigger t s).freeDraws = s.freeDraws ∧
    (otherTrigger t s).trig.pendingTrigger = s.trig.pendingTrigger ∧
    (otherTrigger t s).trig.settings = s.trig.settings ∧ (otherTrigger t s).trig.filtered = s.trig.filtered := by
  unfold otherTrigger; (try dsimp only); (repeat' split) <;> simp

@[simp] theorem enterReady_frame (mode : StartMode) (s : State) :
    (enterReady mode s).powered = s.powered ∧ (enterReady mode s).pins = s.pins ∧
    (enterReady mode s).clock = s.clock ∧ (enterReady mode s).trunk = s.trunk ∧
    (enterReady mode s).framer = s.framer ∧ (enterReady mode s).rollCall = s.rollCall ∧
    (enterReady mode s).out = s.out ∧ (enterReady mode s).mem = s.mem ∧ (enterReady mode s).guard = s.guard ∧
    (enterReady mode s).frame = s.frame ∧ (enterReady mode s).service = s.service ∧
    (enterReady mode s).setup = s.setup ∧ (enterReady mode s).settings = s.settings ∧
    (enterReady mode s).snapshots = s.snapshots ∧ (enterReady mode s).pending = s.pending ∧
    (enterReady mode s).freeDraws = s.freeDraws ∧
    (enterReady mode s).tb.role = s.tb.role ∧ (enterReady mode s).tb.designated = s.tb.designated ∧
    (enterReady mode s).tb.election = s.tb.election ∧ (enterReady mode s).tb.period = s.tb.period ∧
    (enterReady mode s).tb.lock = s.tb.lock ∧ (enterReady mode s).tb.missed = s.tb.missed ∧
    (enterReady mode s).tb.expected = s.tb.expected ∧ (enterReady mode s).tb.markDue = s.tb.markDue ∧
    (enterReady mode s).tb.orphan = s.tb.orphan ∧
    (enterReady mode s).trig.pendingTrigger = s.trig.pendingTrigger ∧
    (enterReady mode s).trig.settings = s.trig.settings ∧ (enterReady mode s).trig.filtered = s.trig.filtered := by
  unfold enterReady; (try dsimp only); (repeat' split) <;> simp

@[simp] theorem handOut_frame (image : List Byte) (s : State) :
    (handOut image s).powered = s.powered ∧ (handOut image s).pins = s.pins ∧
    (handOut image s).clock = s.clock ∧ (handOut image s).trunk = s.trunk ∧
    (handOut image s).framer = s.framer ∧ (handOut image s).tb = s.tb ∧ (handOut image s).station = s.station ∧
    (handOut image s).progress = s.progress ∧ (handOut image s).roster = s.roster ∧
    (handOut image s).rollCall = s.rollCall ∧ (handOut image s).map = s.map ∧ (handOut image s).mem = s.mem ∧
    (handOut image s).frame = s.frame ∧ (handOut image s).service = s.service ∧
    (handOut image s).setup = s.setup ∧ (handOut image s).snapshots = s.snapshots ∧
    (handOut image s).flags = s.flags ∧ (handOut image s).pending = s.pending ∧
    (handOut image s).freeDraws = s.freeDraws ∧
    (handOut image s).guard.state = s.guard.state ∧ (handOut image s).guard.interval = s.guard.interval ∧
    (handOut image s).trig.pendingTrigger = s.trig.pendingTrigger := by
  unfold handOut; (try dsimp only); (repeat' split) <;> simp

@[simp] theorem loadEnds_frame (straps : StationId) (supplied : List Byte) (s : State) :
    (loadEnds straps supplied s).powered = s.powered ∧ (loadEnds straps supplied s).pins = s.pins ∧
    (loadEnds straps supplied s).clock = s.clock ∧ (loadEnds straps supplied s).trunk = s.trunk ∧
    (loadEnds straps supplied s).framer = s.framer ∧ (loadEnds straps supplied s).rollCall = s.rollCall ∧
    (loadEnds straps supplied s).mem = s.mem ∧ (loadEnds straps supplied s).frame = s.frame ∧
    (loadEnds straps supplied s).service = s.service ∧ (loadEnds straps supplied s).snapshots = s.snapshots ∧
    (loadEnds straps supplied s).pending = s.pending ∧
    (loadEnds straps supplied s).freeDraws = s.freeDraws ∧ (loadEnds straps supplied s).tb.role = s.tb.role ∧
    (loadEnds straps supplied s).tb.designated = s.tb.designated ∧
    (loadEnds straps supplied s).tb.election = s.tb.election ∧
    (loadEnds straps supplied s).tb.period = s.tb.period ∧
    (loadEnds straps supplied s).guard.state = s.guard.state ∧
    (loadEnds straps supplied s).guard.interval = s.guard.interval ∧
    (loadEnds straps supplied s).tb.lock = s.tb.lock ∧ (loadEnds straps supplied s).tb.missed = s.tb.missed ∧
    (loadEnds straps supplied s).tb.expected = s.tb.expected ∧
    (loadEnds straps supplied s).tb.markDue = s.tb.markDue ∧
    (loadEnds straps supplied s).tb.orphan = s.tb.orphan ∧
    (loadEnds straps supplied s).trig.pendingTrigger = s.trig.pendingTrigger := by
  unfold loadEnds; (try dsimp only); (repeat' split) <;> simp

@[simp] theorem ejectRises_frame (s : State) :
    (ejectRises s).powered = s.powered ∧ (ejectRises s).pins = s.pins ∧ (ejectRises s).clock = s.clock ∧
    (ejectRises s).framer = s.framer ∧ (ejectRises s).rollCall = s.rollCall ∧ (ejectRises s).mem = s.mem ∧
    (ejectRises s).frame = s.frame ∧ (ejectRises s).service = s.service ∧ (ejectRises s).setup = s.setup ∧
    (ejectRises s).settings = s.settings ∧ (ejectRises s).snapshots = s.snapshots ∧
    (ejectRises s).pending = s.pending ∧
    (ejectRises s).freeDraws = s.freeDraws ∧ (ejectRises s).trunk.switch = s.trunk.switch ∧
    (ejectRises s).trunk.sending = s.trunk.sending ∧ (ejectRises s).tb.role = s.tb.role ∧
    (ejectRises s).tb.designated = s.tb.designated ∧ (ejectRises s).tb.election = s.tb.election ∧
    (ejectRises s).tb.period = s.tb.period ∧ (ejectRises s).guard.thresholds = s.guard.thresholds ∧
    (ejectRises s).tb.lock = s.tb.lock ∧ (ejectRises s).tb.missed = s.tb.missed ∧
    (ejectRises s).tb.expected = s.tb.expected ∧ (ejectRises s).tb.markDue = s.tb.markDue ∧
    (ejectRises s).tb.orphan = s.tb.orphan ∧ (ejectRises s).trig.settings = s.trig.settings ∧
    (ejectRises s).trig.filtered = s.trig.filtered := by
  unfold ejectRises; (try dsimp only); (repeat' split) <;> simp

@[simp] theorem ejectFalls_frame (s : State) :
    (ejectFalls s).powered = s.powered ∧ (ejectFalls s).pins = s.pins ∧ (ejectFalls s).clock = s.clock ∧
    (ejectFalls s).trunk = s.trunk ∧ (ejectFalls s).framer = s.framer ∧ (ejectFalls s).rollCall = s.rollCall ∧
    (ejectFalls s).out = s.out ∧ (ejectFalls s).mem = s.mem ∧ (ejectFalls s).guard = s.guard ∧
    (ejectFalls s).frame = s.frame ∧ (ejectFalls s).service = s.service ∧ (ejectFalls s).setup = s.setup ∧
    (ejectFalls s).settings = s.settings ∧ (ejectFalls s).snapshots = s.snapshots ∧
    (ejectFalls s).pending = s.pending ∧
    (ejectFalls s).freeDraws = s.freeDraws ∧ (ejectFalls s).tb.role = s.tb.role ∧
    (ejectFalls s).tb.designated = s.tb.designated ∧ (ejectFalls s).tb.election = s.tb.election ∧
    (ejectFalls s).tb.period = s.tb.period ∧ (ejectFalls s).tb.lock = s.tb.lock ∧
    (ejectFalls s).tb.missed = s.tb.missed ∧ (ejectFalls s).tb.expected = s.tb.expected ∧
    (ejectFalls s).tb.markDue = s.tb.markDue ∧ (ejectFalls s).tb.orphan = s.tb.orphan ∧
    (ejectFalls s).trig.pendingTrigger = s.trig.pendingTrigger ∧
    (ejectFalls s).trig.settings = s.trig.settings ∧ (ejectFalls s).trig.filtered = s.trig.filtered := by
  unfold ejectFalls; (try dsimp only); (repeat' split) <;> simp

@[simp] theorem startRises_frame (s : State) :
    (startRises s).powered = s.powered ∧ (startRises s).pins = s.pins ∧ (startRises s).clock = s.clock ∧
    (startRises s).trunk = s.trunk ∧ (startRises s).framer = s.framer ∧ (startRises s).rollCall = s.rollCall ∧
    (startRises s).out = s.out ∧ (startRises s).mem = s.mem ∧ (startRises s).guard = s.guard ∧
    (startRises s).frame = s.frame ∧ (startRises s).service = s.service ∧ (startRises s).setup = s.setup ∧
    (startRises s).settings = s.settings ∧ (startRises s).snapshots = s.snapshots ∧
    (startRises s).pending = s.pending ∧
    (startRises s).freeDraws = s.freeDraws ∧ (startRises s).tb.role = s.tb.role ∧
    (startRises s).tb.designated = s.tb.designated ∧ (startRises s).tb.election = s.tb.election ∧
    (startRises s).tb.period = s.tb.period ∧ (startRises s).tb.lock = s.tb.lock ∧
    (startRises s).tb.missed = s.tb.missed ∧ (startRises s).tb.expected = s.tb.expected ∧
    (startRises s).tb.markDue = s.tb.markDue ∧ (startRises s).tb.orphan = s.tb.orphan ∧
    (startRises s).trig.pendingTrigger = s.trig.pendingTrigger ∧
    (startRises s).trig.settings = s.trig.settings ∧ (startRises s).trig.filtered = s.trig.filtered := by
  unfold startRises; (try dsimp only); (repeat' split) <;> simp

@[simp] theorem setReference_frame (i : RefInput) (present : Bool) (s : State) :
    (setReference i present s).powered = s.powered ∧ (setReference i present s).clock = s.clock ∧
    (setReference i present s).trunk = s.trunk ∧ (setReference i present s).framer = s.framer ∧
    (setReference i present s).tb = s.tb ∧ (setReference i present s).station = s.station ∧
    (setReference i present s).progress = s.progress ∧ (setReference i present s).roster = s.roster ∧
    (setReference i present s).rollCall = s.rollCall ∧ (setReference i present s).map = s.map ∧
    (setReference i present s).out = s.out ∧ (setReference i present s).inb = s.inb ∧
    (setReference i present s).mem = s.mem ∧ (setReference i present s).trig = s.trig ∧
    (setReference i present s).guard = s.guard ∧ (setReference i present s).frame = s.frame ∧
    (setReference i present s).service = s.service ∧ (setReference i present s).setup = s.setup ∧
    (setReference i present s).settings = s.settings ∧ (setReference i present s).snapshots = s.snapshots ∧
    (setReference i present s).flags = s.flags ∧ (setReference i present s).pending = s.pending ∧
    (setReference i present s).freeDraws = s.freeDraws := by
  unfold setReference; (try dsimp only); (repeat' split) <;> simp

@[simp] theorem lockIntervalEnds_frame (now next : LockState) (s : State) :
    (lockIntervalEnds now next s).powered = s.powered ∧ (lockIntervalEnds now next s).pins = s.pins ∧
    (lockIntervalEnds now next s).trunk = s.trunk ∧ (lockIntervalEnds now next s).framer = s.framer ∧
    (lockIntervalEnds now next s).station = s.station ∧ (lockIntervalEnds now next s).progress = s.progress ∧
    (lockIntervalEnds now next s).roster = s.roster ∧ (lockIntervalEnds now next s).rollCall = s.rollCall ∧
    (lockIntervalEnds now next s).map = s.map ∧ (lockIntervalEnds now next s).out = s.out ∧
    (lockIntervalEnds now next s).inb = s.inb ∧ (lockIntervalEnds now next s).mem = s.mem ∧
    (lockIntervalEnds now next s).trig = s.trig ∧ (lockIntervalEnds now next s).guard = s.guard ∧
    (lockIntervalEnds now next s).frame = s.frame ∧ (lockIntervalEnds now next s).service = s.service ∧
    (lockIntervalEnds now next s).setup = s.setup ∧ (lockIntervalEnds now next s).settings = s.settings ∧
    (lockIntervalEnds now next s).snapshots = s.snapshots ∧ (lockIntervalEnds now next s).flags = s.flags ∧
    (lockIntervalEnds now next s).pending = s.pending ∧
    (lockIntervalEnds now next s).freeDraws = s.freeDraws ∧ (lockIntervalEnds now next s).tb.role = s.tb.role ∧
    (lockIntervalEnds now next s).tb.designated = s.tb.designated ∧
    (lockIntervalEnds now next s).tb.election = s.tb.election ∧
    (lockIntervalEnds now next s).tb.period = s.tb.period ∧
    (lockIntervalEnds now next s).tb.listen = s.tb.listen ∧
    (lockIntervalEnds now next s).tb.missed = s.tb.missed ∧
    (lockIntervalEnds now next s).tb.expected = s.tb.expected ∧
    (lockIntervalEnds now next s).tb.markDue = s.tb.markDue ∧
    (lockIntervalEnds now next s).tb.orphan = s.tb.orphan := by
  unfold lockIntervalEnds; (try dsimp only); (repeat' split) <;> simp

@[simp] theorem cutInReported_frame (s : State) :
    (cutInReported s).powered = s.powered ∧ (cutInReported s).pins = s.pins ∧
    (cutInReported s).clock = s.clock ∧ (cutInReported s).framer = s.framer ∧
    (cutInReported s).station = s.station ∧ (cutInReported s).roster = s.roster ∧
    (cutInReported s).rollCall = s.rollCall ∧ (cutInReported s).map = s.map ∧ (cutInReported s).inb = s.inb ∧
    (cutInReported s).mem = s.mem ∧ (cutInReported s).trig = s.trig ∧ (cutInReported s).guard = s.guard ∧
    (cutInReported s).frame = s.frame ∧ (cutInReported s).service = s.service ∧
    (cutInReported s).setup = s.setup ∧ (cutInReported s).settings = s.settings ∧
    (cutInReported s).snapshots = s.snapshots ∧ (cutInReported s).pending = s.pending ∧
    (cutInReported s).freeDraws = s.freeDraws ∧
    (cutInReported s).trunk.switch = s.trunk.switch ∧ (cutInReported s).trunk.sending = s.trunk.sending ∧
    (cutInReported s).tb.role = s.tb.role ∧ (cutInReported s).tb.designated = s.tb.designated ∧
    (cutInReported s).tb.election = s.tb.election ∧ (cutInReported s).tb.period = s.tb.period ∧
    (cutInReported s).progress.leaveClosingDue = s.progress.leaveClosingDue ∧
    (cutInReported s).progress.leavingDue = s.progress.leavingDue ∧
    (cutInReported s).progress.ownLeaveTaken = s.progress.ownLeaveTaken ∧
    (cutInReported s).tb.lock = s.tb.lock ∧ (cutInReported s).tb.missed = s.tb.missed ∧
    (cutInReported s).tb.expected = s.tb.expected ∧ (cutInReported s).tb.markDue = s.tb.markDue ∧
    (cutInReported s).tb.orphan = s.tb.orphan := by
  unfold cutInReported; (try dsimp only); (repeat' split) <;> simp

@[simp] theorem cutIn_frame (s : State) :
    (cutIn s).powered = s.powered ∧ (cutIn s).pins = s.pins ∧ (cutIn s).clock = s.clock ∧
    (cutIn s).framer = s.framer ∧ (cutIn s).station = s.station ∧ (cutIn s).roster = s.roster ∧
    (cutIn s).rollCall = s.rollCall ∧ (cutIn s).map = s.map ∧ (cutIn s).inb = s.inb ∧ (cutIn s).mem = s.mem ∧
    (cutIn s).trig = s.trig ∧ (cutIn s).frame = s.frame ∧ (cutIn s).service = s.service ∧
    (cutIn s).setup = s.setup ∧ (cutIn s).settings = s.settings ∧ (cutIn s).snapshots = s.snapshots ∧
    (cutIn s).pending = s.pending ∧
    (cutIn s).freeDraws = s.freeDraws ∧ (cutIn s).trunk.sending = s.trunk.sending ∧ (cutIn s).tb.role = s.tb.role ∧
    (cutIn s).tb.designated = s.tb.designated ∧ (cutIn s).tb.election = s.tb.election ∧
    (cutIn s).tb.period = s.tb.period ∧ (cutIn s).guard.state = s.guard.state ∧
    (cutIn s).guard.thresholds = s.guard.thresholds ∧
    (cutIn s).progress.leaveClosingDue = s.progress.leaveClosingDue ∧
    (cutIn s).progress.leavingDue = s.progress.leavingDue ∧
    (cutIn s).progress.ownLeaveTaken = s.progress.ownLeaveTaken ∧ (cutIn s).tb.lock = s.tb.lock ∧
    (cutIn s).tb.missed = s.tb.missed ∧ (cutIn s).tb.expected = s.tb.expected ∧
    (cutIn s).tb.markDue = s.tb.markDue ∧ (cutIn s).tb.orphan = s.tb.orphan := by
  unfold cutIn; (try dsimp only); (repeat' split) <;> simp

@[simp] theorem cutOut_frame (s : State) :
    (cutOut s).powered = s.powered ∧ (cutOut s).pins = s.pins ∧ (cutOut s).clock = s.clock ∧
    (cutOut s).framer = s.framer ∧ (cutOut s).tb = s.tb ∧ (cutOut s).station = s.station ∧
    (cutOut s).progress = s.progress ∧ (cutOut s).roster = s.roster ∧ (cutOut s).rollCall = s.rollCall ∧
    (cutOut s).map = s.map ∧ (cutOut s).out = s.out ∧ (cutOut s).inb = s.inb ∧ (cutOut s).mem = s.mem ∧
    (cutOut s).frame = s.frame ∧ (cutOut s).service = s.service ∧ (cutOut s).setup = s.setup ∧
    (cutOut s).settings = s.settings ∧ (cutOut s).snapshots = s.snapshots ∧ (cutOut s).pending = s.pending ∧
    (cutOut s).freeDraws = s.freeDraws ∧
    (cutOut s).trunk.sending = s.trunk.sending ∧ (cutOut s).guard.state = s.guard.state ∧
    (cutOut s).guard.thresholds = s.guard.thresholds ∧ (cutOut s).trig.settings = s.trig.settings ∧
    (cutOut s).trig.filtered = s.trig.filtered := by
  unfold cutOut; (try dsimp only); (repeat' split) <;> simp

@[simp] theorem skipMark_frame (due : MarkAt) (s : State) :
    (skipMark due s).powered = s.powered ∧ (skipMark due s).pins = s.pins ∧ (skipMark due s).clock = s.clock ∧
    (skipMark due s).mem = s.mem ∧ (skipMark due s).frame = s.frame ∧ (skipMark due s).service = s.service ∧
    (skipMark due s).setup = s.setup ∧ (skipMark due s).settings = s.settings ∧
    (skipMark due s).pending = s.pending ∧ (skipMark due s).trunk.switch = s.trunk.switch ∧
    (skipMark due s).trunk.sending = s.trunk.sending ∧ (skipMark due s).tb.election = s.tb.election ∧
    (skipMark due s).tb.period = s.tb.period ∧ (skipMark due s).guard.thresholds = s.guard.thresholds ∧
    (skipMark due s).trig.settings = s.trig.settings ∧ (skipMark due s).trig.filtered = s.trig.filtered := by
  unfold skipMark; (try dsimp only); (repeat' split) <;> simp

@[simp] theorem startMark_frame (due : MarkAt) (rival : Option ArbKey) (s : State) :
    (startMark due rival s).powered = s.powered ∧ (startMark due rival s).pins = s.pins ∧
    (startMark due rival s).clock = s.clock ∧ (startMark due rival s).mem = s.mem ∧
    (startMark due rival s).frame = s.frame ∧ (startMark due rival s).service = s.service ∧
    (startMark due rival s).setup = s.setup ∧ (startMark due rival s).settings = s.settings ∧
    (startMark due rival s).pending = s.pending ∧ (startMark due rival s).trunk.switch = s.trunk.switch ∧
    (startMark due rival s).tb.election = s.tb.election ∧ (startMark due rival s).tb.period = s.tb.period ∧
    (startMark due rival s).guard.thresholds = s.guard.thresholds ∧
    (startMark due rival s).trig.settings = s.trig.settings ∧
    (startMark due rival s).trig.filtered = s.trig.filtered := by
  unfold startMark; (try dsimp only); (repeat' split) <;> simp

@[simp] theorem markFallsDue_frame (pair : PairAt) (s : State) :
    (markFallsDue pair s).powered = s.powered ∧ (markFallsDue pair s).pins = s.pins ∧
    (markFallsDue pair s).mem = s.mem ∧ (markFallsDue pair s).frame = s.frame ∧
    (markFallsDue pair s).service = s.service ∧ (markFallsDue pair s).setup = s.setup ∧
    (markFallsDue pair s).settings = s.settings ∧ (markFallsDue pair s).pending = s.pending ∧
    (markFallsDue pair s).trunk.switch = s.trunk.switch ∧ (markFallsDue pair s).tb.election = s.tb.election ∧
    (markFallsDue pair s).tb.period = s.tb.period ∧
    (markFallsDue pair s).guard.thresholds = s.guard.thresholds ∧
    (markFallsDue pair s).trig.settings = s.trig.settings ∧
    (markFallsDue pair s).trig.filtered = s.trig.filtered := by
  unfold markFallsDue; (try dsimp only); (repeat' split) <;> simp

@[simp] theorem boundaryComes_frame (s : State) :
    (boundaryComes s).powered = s.powered ∧ (boundaryComes s).pins = s.pins ∧ (boundaryComes s).mem = s.mem ∧
    (boundaryComes s).frame = s.frame ∧ (boundaryComes s).service = s.service ∧
    (boundaryComes s).setup = s.setup ∧ (boundaryComes s).settings = s.settings ∧
    (boundaryComes s).pending = s.pending ∧ (boundaryComes s).freeDraws = s.freeDraws ∧
    (boundaryComes s).trunk.switch = s.trunk.switch ∧ (boundaryComes s).trunk.sending = s.trunk.sending ∧
    (boundaryComes s).tb.election = s.tb.election ∧ (boundaryComes s).tb.period = s.tb.period ∧
    (boundaryComes s).framer.framed = s.framer.framed ∧
    (boundaryComes s).guard.thresholds = s.guard.thresholds ∧
    (boundaryComes s).trig.settings = s.trig.settings ∧ (boundaryComes s).trig.filtered = s.trig.filtered := by
  unfold boundaryComes; (try dsimp only); (repeat' split) <;> simp

@[simp] theorem joiningTimesOut_frame (s : State) :
    (joiningTimesOut s).powered = s.powered ∧ (joiningTimesOut s).pins = s.pins ∧
    (joiningTimesOut s).clock = s.clock ∧ (joiningTimesOut s).trunk = s.trunk ∧
    (joiningTimesOut s).framer = s.framer ∧ (joiningTimesOut s).rollCall = s.rollCall ∧
    (joiningTimesOut s).mem = s.mem ∧ (joiningTimesOut s).frame = s.frame ∧
    (joiningTimesOut s).service = s.service ∧ (joiningTimesOut s).setup = s.setup ∧
    (joiningTimesOut s).settings = s.settings ∧ (joiningTimesOut s).snapshots = s.snapshots ∧
    (joiningTimesOut s).pending = s.pending ∧
    (joiningTimesOut s).freeDraws = s.freeDraws ∧ (joiningTimesOut s).tb.role = s.tb.role ∧
    (joiningTimesOut s).tb.designated = s.tb.designated ∧ (joiningTimesOut s).tb.election = s.tb.election ∧
    (joiningTimesOut s).tb.period = s.tb.period ∧ (joiningTimesOut s).guard.thresholds = s.guard.thresholds ∧
    (joiningTimesOut s).tb.lock = s.tb.lock ∧ (joiningTimesOut s).tb.missed = s.tb.missed ∧
    (joiningTimesOut s).tb.expected = s.tb.expected ∧ (joiningTimesOut s).tb.markDue = s.tb.markDue ∧
    (joiningTimesOut s).tb.orphan = s.tb.orphan ∧ (joiningTimesOut s).trig.settings = s.trig.settings ∧
    (joiningTimesOut s).trig.filtered = s.trig.filtered := by
  unfold joiningTimesOut; (try dsimp only); (repeat' split) <;> simp

@[simp] theorem markRollCall_frame (s : State) :
    (markRollCall s).powered = s.powered ∧ (markRollCall s).pins = s.pins ∧ (markRollCall s).clock = s.clock ∧
    (markRollCall s).trunk = s.trunk ∧ (markRollCall s).framer = s.framer ∧ (markRollCall s).tb = s.tb ∧
    (markRollCall s).station = s.station ∧ (markRollCall s).progress = s.progress ∧
    (markRollCall s).roster = s.roster ∧ (markRollCall s).map = s.map ∧ (markRollCall s).out = s.out ∧
    (markRollCall s).inb = s.inb ∧ (markRollCall s).mem = s.mem ∧ (markRollCall s).trig = s.trig ∧
    (markRollCall s).guard = s.guard ∧ (markRollCall s).frame = s.frame ∧
    (markRollCall s).service = s.service ∧ (markRollCall s).setup = s.setup ∧
    (markRollCall s).settings = s.settings ∧ (markRollCall s).snapshots = s.snapshots ∧
    (markRollCall s).flags = s.flags ∧ (markRollCall s).pending = s.pending ∧
    (markRollCall s).freeDraws = s.freeDraws := by
  unfold markRollCall; (try dsimp only); (repeat' split) <;> simp

@[simp] theorem rollCallStarts_frame (s : State) :
    (rollCallStarts s).powered = s.powered ∧ (rollCallStarts s).pins = s.pins ∧
    (rollCallStarts s).trunk = s.trunk ∧ (rollCallStarts s).tb = s.tb ∧ (rollCallStarts s).station = s.station ∧
    (rollCallStarts s).progress = s.progress ∧ (rollCallStarts s).roster = s.roster ∧
    (rollCallStarts s).out = s.out ∧ (rollCallStarts s).mem = s.mem ∧ (rollCallStarts s).trig = s.trig ∧
    (rollCallStarts s).guard = s.guard ∧ (rollCallStarts s).frame = s.frame ∧
    (rollCallStarts s).service = s.service ∧ (rollCallStarts s).setup = s.setup ∧
    (rollCallStarts s).settings = s.settings ∧ (rollCallStarts s).snapshots = s.snapshots ∧
    (rollCallStarts s).pending = s.pending ∧ (rollCallStarts s).framer.framed = s.framer.framed ∧
    (rollCallStarts s).framer.round = s.framer.round ∧ (rollCallStarts s).framer.opening = s.framer.opening ∧
    (rollCallStarts s).map.resync = s.map.resync := by
  unfold rollCallStarts; (try dsimp only); (repeat' split) <;> simp

@[simp] theorem ownWordStarts_frame (p : Presence) (s : State) :
    (ownWordStarts p s).powered = s.powered ∧ (ownWordStarts p s).pins = s.pins ∧
    (ownWordStarts p s).clock = s.clock ∧ (ownWordStarts p s).trunk = s.trunk ∧
    (ownWordStarts p s).framer = s.framer ∧ (ownWordStarts p s).tb = s.tb ∧
    (ownWordStarts p s).station = s.station ∧ (ownWordStarts p s).progress = s.progress ∧
    (ownWordStarts p s).rollCall = s.rollCall ∧ (ownWordStarts p s).map = s.map ∧
    (ownWordStarts p s).out = s.out ∧ (ownWordStarts p s).inb = s.inb ∧ (ownWordStarts p s).mem = s.mem ∧
    (ownWordStarts p s).trig = s.trig ∧ (ownWordStarts p s).guard = s.guard ∧
    (ownWordStarts p s).frame = s.frame ∧ (ownWordStarts p s).service = s.service ∧
    (ownWordStarts p s).setup = s.setup ∧ (ownWordStarts p s).settings = s.settings ∧
    (ownWordStarts p s).snapshots = s.snapshots ∧ (ownWordStarts p s).flags = s.flags ∧
    (ownWordStarts p s).pending = s.pending ∧
    (ownWordStarts p s).freeDraws = s.freeDraws := by
  unfold ownWordStarts; (try dsimp only); (repeat' split) <;> simp

@[simp] theorem startAgainst_frame (rival : Option ArbKey) (p : Packet) (s : State) :
    (startAgainst rival p s).powered = s.powered ∧ (startAgainst rival p s).pins = s.pins ∧
    (startAgainst rival p s).clock = s.clock ∧ (startAgainst rival p s).framer = s.framer ∧
    (startAgainst rival p s).tb = s.tb ∧ (startAgainst rival p s).station = s.station ∧
    (startAgainst rival p s).progress = s.progress ∧ (startAgainst rival p s).roster = s.roster ∧
    (startAgainst rival p s).rollCall = s.rollCall ∧ (startAgainst rival p s).map = s.map ∧
    (startAgainst rival p s).out = s.out ∧ (startAgainst rival p s).inb = s.inb ∧
    (startAgainst rival p s).mem = s.mem ∧ (startAgainst rival p s).trig = s.trig ∧
    (startAgainst rival p s).guard = s.guard ∧ (startAgainst rival p s).frame = s.frame ∧
    (startAgainst rival p s).service = s.service ∧ (startAgainst rival p s).setup = s.setup ∧
    (startAgainst rival p s).settings = s.settings ∧ (startAgainst rival p s).snapshots = s.snapshots ∧
    (startAgainst rival p s).flags = s.flags ∧ (startAgainst rival p s).pending = s.pending ∧
    (startAgainst rival p s).freeDraws = s.freeDraws ∧ (startAgainst rival p s).trunk.switch = s.trunk.switch ∧
    (startAgainst rival p s).trunk.queue = s.trunk.queue ∧
    (startAgainst rival p s).trunk.waiting = s.trunk.waiting ∧
    (startAgainst rival p s).trunk.pace = s.trunk.pace ∧
    (startAgainst rival p s).trunk.gapStart = s.trunk.gapStart := by
  unfold startAgainst; (try dsimp only); (repeat' split) <;> simp

@[simp] theorem sendPresence_frame (pair : PairAt) (s : State) :
    (sendPresence pair s).powered = s.powered ∧ (sendPresence pair s).pins = s.pins ∧
    (sendPresence pair s).clock = s.clock ∧ (sendPresence pair s).framer = s.framer ∧
    (sendPresence pair s).tb = s.tb ∧ (sendPresence pair s).station = s.station ∧
    (sendPresence pair s).progress = s.progress ∧ (sendPresence pair s).rollCall = s.rollCall ∧
    (sendPresence pair s).map = s.map ∧ (sendPresence pair s).out = s.out ∧ (sendPresence pair s).inb = s.inb ∧
    (sendPresence pair s).mem = s.mem ∧ (sendPresence pair s).trig = s.trig ∧
    (sendPresence pair s).guard = s.guard ∧ (sendPresence pair s).frame = s.frame ∧
    (sendPresence pair s).service = s.service ∧ (sendPresence pair s).setup = s.setup ∧
    (sendPresence pair s).settings = s.settings ∧ (sendPresence pair s).snapshots = s.snapshots ∧
    (sendPresence pair s).flags = s.flags ∧ (sendPresence pair s).pending = s.pending ∧
    (sendPresence pair s).freeDraws = s.freeDraws ∧
    (sendPresence pair s).trunk.switch = s.trunk.switch ∧ (sendPresence pair s).trunk.queue = s.trunk.queue ∧
    (sendPresence pair s).trunk.waiting = s.trunk.waiting := by
  unfold sendPresence; (try dsimp only); (repeat' split) <;> simp

@[simp] theorem ownPositionBegins_frame (pair : PairAt) (s : State) :
    (ownPositionBegins pair s).powered = s.powered ∧ (ownPositionBegins pair s).pins = s.pins ∧
    (ownPositionBegins pair s).tb = s.tb ∧ (ownPositionBegins pair s).station = s.station ∧
    (ownPositionBegins pair s).progress = s.progress ∧ (ownPositionBegins pair s).rollCall = s.rollCall ∧
    (ownPositionBegins pair s).map = s.map ∧ (ownPositionBegins pair s).out = s.out ∧
    (ownPositionBegins pair s).inb = s.inb ∧ (ownPositionBegins pair s).mem = s.mem ∧
    (ownPositionBegins pair s).trig = s.trig ∧ (ownPositionBegins pair s).guard = s.guard ∧
    (ownPositionBegins pair s).frame = s.frame ∧ (ownPositionBegins pair s).service = s.service ∧
    (ownPositionBegins pair s).setup = s.setup ∧ (ownPositionBegins pair s).settings = s.settings ∧
    (ownPositionBegins pair s).snapshots = s.snapshots ∧ (ownPositionBegins pair s).flags = s.flags ∧
    (ownPositionBegins pair s).pending = s.pending ∧
    (ownPositionBegins pair s).freeDraws = s.freeDraws ∧ (ownPositionBegins pair s).trunk.switch = s.trunk.switch ∧
    (ownPositionBegins pair s).trunk.queue = s.trunk.queue ∧
    (ownPositionBegins pair s).trunk.waiting = s.trunk.waiting ∧
    (ownPositionBegins pair s).framer.framed = s.framer.framed ∧
    (ownPositionBegins pair s).framer.round = s.framer.round ∧
    (ownPositionBegins pair s).framer.opening = s.framer.opening := by
  unfold ownPositionBegins; (try dsimp only); (repeat' split) <;> simp

@[simp] theorem sendInLane_frame (l : Lane) (pair : PairAt) (s : State) :
    (sendInLane l pair s).powered = s.powered ∧ (sendInLane l pair s).pins = s.pins ∧
    (sendInLane l pair s).clock = s.clock ∧ (sendInLane l pair s).framer = s.framer ∧
    (sendInLane l pair s).tb = s.tb ∧ (sendInLane l pair s).station = s.station ∧
    (sendInLane l pair s).progress = s.progress ∧ (sendInLane l pair s).roster = s.roster ∧
    (sendInLane l pair s).rollCall = s.rollCall ∧ (sendInLane l pair s).map = s.map ∧
    (sendInLane l pair s).inb = s.inb ∧ (sendInLane l pair s).mem = s.mem ∧
    (sendInLane l pair s).trig = s.trig ∧ (sendInLane l pair s).guard = s.guard ∧
    (sendInLane l pair s).frame = s.frame ∧ (sendInLane l pair s).service = s.service ∧
    (sendInLane l pair s).setup = s.setup ∧ (sendInLane l pair s).settings = s.settings ∧
    (sendInLane l pair s).snapshots = s.snapshots ∧ (sendInLane l pair s).pending = s.pending ∧
    (sendInLane l pair s).freeDraws = s.freeDraws ∧
    (sendInLane l pair s).trunk.switch = s.trunk.switch := by
  unfold sendInLane; (try dsimp only); (repeat' split) <;> simp

@[simp] theorem laneBegins_frame (l : Lane) (pair : PairAt) (s : State) :
    (laneBegins l pair s).powered = s.powered ∧ (laneBegins l pair s).pins = s.pins ∧
    (laneBegins l pair s).tb = s.tb ∧ (laneBegins l pair s).station = s.station ∧
    (laneBegins l pair s).progress = s.progress ∧ (laneBegins l pair s).roster = s.roster ∧
    (laneBegins l pair s).rollCall = s.rollCall ∧ (laneBegins l pair s).map = s.map ∧
    (laneBegins l pair s).inb = s.inb ∧ (laneBegins l pair s).mem = s.mem ∧
    (laneBegins l pair s).trig = s.trig ∧ (laneBegins l pair s).guard = s.guard ∧
    (laneBegins l pair s).frame = s.frame ∧ (laneBegins l pair s).service = s.service ∧
    (laneBegins l pair s).setup = s.setup ∧ (laneBegins l pair s).settings = s.settings ∧
    (laneBegins l pair s).snapshots = s.snapshots ∧ (laneBegins l pair s).pending = s.pending ∧
    (laneBegins l pair s).freeDraws = s.freeDraws ∧
    (laneBegins l pair s).trunk.switch = s.trunk.switch ∧
    (laneBegins l pair s).framer.framed = s.framer.framed ∧
    (laneBegins l pair s).framer.round = s.framer.round ∧
    (laneBegins l pair s).framer.opening = s.framer.opening := by
  unfold laneBegins; (try dsimp only); (repeat' split) <;> simp

@[simp] theorem windowOpens_frame (k : Fin 4) (rival : Option ArbKey) (s : State) :
    (windowOpens k rival s).powered = s.powered ∧ (windowOpens k rival s).pins = s.pins ∧
    (windowOpens k rival s).tb = s.tb ∧ (windowOpens k rival s).station = s.station ∧
    (windowOpens k rival s).progress = s.progress ∧ (windowOpens k rival s).roster = s.roster ∧
    (windowOpens k rival s).rollCall = s.rollCall ∧ (windowOpens k rival s).map = s.map ∧
    (windowOpens k rival s).out = s.out ∧ (windowOpens k rival s).inb = s.inb ∧
    (windowOpens k rival s).mem = s.mem ∧ (windowOpens k rival s).trig = s.trig ∧
    (windowOpens k rival s).guard = s.guard ∧ (windowOpens k rival s).frame = s.frame ∧
    (windowOpens k rival s).service = s.service ∧ (windowOpens k rival s).setup = s.setup ∧
    (windowOpens k rival s).settings = s.settings ∧ (windowOpens k rival s).snapshots = s.snapshots ∧
    (windowOpens k rival s).flags = s.flags ∧ (windowOpens k rival s).pending = s.pending ∧
    (windowOpens k rival s).freeDraws = s.freeDraws ∧
    (windowOpens k rival s).trunk.switch = s.trunk.switch ∧
    (windowOpens k rival s).trunk.queue = s.trunk.queue ∧
    (windowOpens k rival s).trunk.waiting = s.trunk.waiting ∧
    (windowOpens k rival s).framer.framed = s.framer.framed ∧
    (windowOpens k rival s).framer.round = s.framer.round ∧
    (windowOpens k rival s).framer.opening = s.framer.opening := by
  unfold windowOpens; (try dsimp only); (repeat' split) <;> simp

@[simp] theorem gapRuns_frame (s : State) :
    (gapRuns s).powered = s.powered ∧ (gapRuns s).pins = s.pins ∧ (gapRuns s).framer = s.framer ∧
    (gapRuns s).tb = s.tb ∧ (gapRuns s).station = s.station ∧ (gapRuns s).progress = s.progress ∧
    (gapRuns s).roster = s.roster ∧ (gapRuns s).rollCall = s.rollCall ∧ (gapRuns s).map = s.map ∧
    (gapRuns s).out = s.out ∧ (gapRuns s).inb = s.inb ∧ (gapRuns s).mem = s.mem ∧ (gapRuns s).trig = s.trig ∧
    (gapRuns s).guard = s.guard ∧ (gapRuns s).frame = s.frame ∧ (gapRuns s).service = s.service ∧
    (gapRuns s).setup = s.setup ∧ (gapRuns s).settings = s.settings ∧ (gapRuns s).snapshots = s.snapshots ∧
    (gapRuns s).flags = s.flags ∧ (gapRuns s).pending = s.pending ∧
    (gapRuns s).freeDraws = s.freeDraws ∧ (gapRuns s).trunk.switch = s.trunk.switch ∧
    (gapRuns s).trunk.sending = s.trunk.sending ∧ (gapRuns s).trunk.queue = s.trunk.queue ∧
    (gapRuns s).trunk.waiting = s.trunk.waiting := by
  unfold gapRuns; (try dsimp only); (repeat' split) <;> simp

@[simp] theorem gapEnds_frame (rival : Option ArbKey) (s : State) :
    (gapEnds rival s).powered = s.powered ∧ (gapEnds rival s).pins = s.pins ∧
    (gapEnds rival s).framer = s.framer ∧ (gapEnds rival s).tb = s.tb ∧ (gapEnds rival s).station = s.station ∧
    (gapEnds rival s).progress = s.progress ∧ (gapEnds rival s).roster = s.roster ∧
    (gapEnds rival s).rollCall = s.rollCall ∧ (gapEnds rival s).map = s.map ∧ (gapEnds rival s).inb = s.inb ∧
    (gapEnds rival s).mem = s.mem ∧ (gapEnds rival s).trig = s.trig ∧ (gapEnds rival s).guard = s.guard ∧
    (gapEnds rival s).frame = s.frame ∧ (gapEnds rival s).service = s.service ∧
    (gapEnds rival s).setup = s.setup ∧ (gapEnds rival s).settings = s.settings ∧
    (gapEnds rival s).snapshots = s.snapshots ∧ (gapEnds rival s).pending = s.pending ∧
    (gapEnds rival s).freeDraws = s.freeDraws ∧
    (gapEnds rival s).trunk.switch = s.trunk.switch := by
  unfold gapEnds; (try dsimp only); (repeat' split) <;> simp

@[simp] theorem readBackFails_frame (s : State) :
    (readBackFails s).powered = s.powered ∧ (readBackFails s).pins = s.pins ∧
    (readBackFails s).clock = s.clock ∧ (readBackFails s).rollCall = s.rollCall ∧
    (readBackFails s).mem = s.mem ∧ (readBackFails s).frame = s.frame ∧ (readBackFails s).service = s.service ∧
    (readBackFails s).setup = s.setup ∧ (readBackFails s).settings = s.settings ∧
    (readBackFails s).pending = s.pending ∧ (readBackFails s).trunk.switch = s.trunk.switch ∧
    (readBackFails s).tb.election = s.tb.election ∧ (readBackFails s).tb.period = s.tb.period ∧
    (readBackFails s).framer.round = s.framer.round ∧ (readBackFails s).framer.opening = s.framer.opening ∧
    (readBackFails s).guard.thresholds = s.guard.thresholds ∧
    (readBackFails s).trig.settings = s.trig.settings ∧ (readBackFails s).trig.filtered = s.trig.filtered := by
  unfold readBackFails; (try dsimp only); (repeat' split) <;> simp

@[simp] theorem driveLimitRuns_frame (s : State) :
    (driveLimitRuns s).powered = s.powered ∧ (driveLimitRuns s).pins = s.pins ∧
    (driveLimitRuns s).rollCall = s.rollCall ∧ (driveLimitRuns s).mem = s.mem ∧
    (driveLimitRuns s).frame = s.frame ∧ (driveLimitRuns s).service = s.service ∧
    (driveLimitRuns s).setup = s.setup ∧ (driveLimitRuns s).settings = s.settings ∧
    (driveLimitRuns s).pending = s.pending ∧ (driveLimitRuns s).trunk.switch = s.trunk.switch ∧
    (driveLimitRuns s).tb.election = s.tb.election ∧ (driveLimitRuns s).tb.period = s.tb.period ∧
    (driveLimitRuns s).framer.round = s.framer.round ∧ (driveLimitRuns s).framer.opening = s.framer.opening ∧
    (driveLimitRuns s).guard.thresholds = s.guard.thresholds ∧
    (driveLimitRuns s).trig.settings = s.trig.settings ∧ (driveLimitRuns s).trig.filtered = s.trig.filtered := by
  unfold driveLimitRuns; (try dsimp only); (repeat' split) <;> simp

@[simp] theorem repeaterCut_frame (s : State) :
    (repeaterCut s).powered = s.powered ∧ (repeaterCut s).pins = s.pins ∧ (repeaterCut s).clock = s.clock ∧
    (repeaterCut s).framer = s.framer ∧ (repeaterCut s).tb = s.tb ∧ (repeaterCut s).station = s.station ∧
    (repeaterCut s).progress = s.progress ∧ (repeaterCut s).roster = s.roster ∧
    (repeaterCut s).rollCall = s.rollCall ∧ (repeaterCut s).map = s.map ∧ (repeaterCut s).out = s.out ∧
    (repeaterCut s).inb = s.inb ∧ (repeaterCut s).mem = s.mem ∧ (repeaterCut s).trig = s.trig ∧
    (repeaterCut s).frame = s.frame ∧ (repeaterCut s).service = s.service ∧ (repeaterCut s).setup = s.setup ∧
    (repeaterCut s).settings = s.settings ∧ (repeaterCut s).snapshots = s.snapshots ∧
    (repeaterCut s).pending = s.pending ∧
    (repeaterCut s).freeDraws = s.freeDraws ∧ (repeaterCut s).trunk.switch = s.trunk.switch ∧
    (repeaterCut s).trunk.sending = s.trunk.sending ∧ (repeaterCut s).trunk.queue = s.trunk.queue ∧
    (repeaterCut s).trunk.waiting = s.trunk.waiting ∧ (repeaterCut s).guard.interval = s.guard.interval ∧
    (repeaterCut s).guard.thresholds = s.guard.thresholds := by
  unfold repeaterCut; (try dsimp only); (repeat' split) <;> simp

@[simp] theorem predictRound_frame (s : State) :
    (predictRound s).powered = s.powered ∧ (predictRound s).pins = s.pins ∧ (predictRound s).clock = s.clock ∧
    (predictRound s).mem = s.mem ∧ (predictRound s).frame = s.frame ∧ (predictRound s).service = s.service ∧
    (predictRound s).setup = s.setup ∧ (predictRound s).settings = s.settings ∧
    (predictRound s).pending = s.pending ∧ (predictRound s).freeDraws = s.freeDraws ∧
    (predictRound s).trunk.switch = s.trunk.switch ∧ (predictRound s).trunk.sending = s.trunk.sending ∧
    (predictRound s).tb.election = s.tb.election ∧ (predictRound s).tb.period = s.tb.period ∧
    (predictRound s).framer.framed = s.framer.framed ∧ (predictRound s).guard.thresholds = s.guard.thresholds ∧
    (predictRound s).trig.settings = s.trig.settings ∧ (predictRound s).trig.filtered = s.trig.filtered := by
  unfold predictRound; (try dsimp only); (repeat' split) <;> simp

@[simp] theorem markMissed_frame (s : State) :
    (markMissed s).powered = s.powered ∧ (markMissed s).pins = s.pins ∧ (markMissed s).mem = s.mem ∧
    (markMissed s).frame = s.frame ∧ (markMissed s).service = s.service ∧ (markMissed s).setup = s.setup ∧
    (markMissed s).settings = s.settings ∧ (markMissed s).pending = s.pending ∧
    (markMissed s).freeDraws = s.freeDraws ∧ (markMissed s).trunk.switch = s.trunk.switch ∧
    (markMissed s).trunk.sending = s.trunk.sending ∧ (markMissed s).tb.election = s.tb.election ∧
    (markMissed s).tb.period = s.tb.period ∧ (markMissed s).framer.framed = s.framer.framed ∧
    (markMissed s).guard.thresholds = s.guard.thresholds ∧ (markMissed s).trig.settings = s.trig.settings ∧
    (markMissed s).trig.filtered = s.trig.filtered := by
  unfold markMissed; (try dsimp only); (repeat' split) <;> simp

@[simp] theorem markTimesOut_frame (s : State) :
    (markTimesOut s).powered = s.powered ∧ (markTimesOut s).pins = s.pins ∧
    (markTimesOut s).rollCall = s.rollCall ∧ (markTimesOut s).mem = s.mem ∧ (markTimesOut s).frame = s.frame ∧
    (markTimesOut s).service = s.service ∧ (markTimesOut s).setup = s.setup ∧
    (markTimesOut s).settings = s.settings ∧ (markTimesOut s).pending = s.pending ∧
    (markTimesOut s).trunk.switch = s.trunk.switch ∧ (markTimesOut s).trunk.sending = s.trunk.sending ∧
    (markTimesOut s).tb.role = s.tb.role ∧ (markTimesOut s).tb.election = s.tb.election ∧
    (markTimesOut s).tb.period = s.tb.period ∧ (markTimesOut s).framer.round = s.framer.round ∧
    (markTimesOut s).framer.opening = s.framer.opening ∧
    (markTimesOut s).guard.thresholds = s.guard.thresholds ∧ (markTimesOut s).tb.lock = s.tb.lock ∧
    (markTimesOut s).tb.markDue = s.tb.markDue ∧ (markTimesOut s).trig.settings = s.trig.settings ∧
    (markTimesOut s).trig.filtered = s.trig.filtered := by
  unfold markTimesOut; (try dsimp only); (repeat' split) <;> simp

@[simp] theorem backoffRunsOut_frame (s : State) :
    (backoffRunsOut s).powered = s.powered ∧ (backoffRunsOut s).pins = s.pins ∧
    (backoffRunsOut s).framer = s.framer ∧ (backoffRunsOut s).station = s.station ∧
    (backoffRunsOut s).progress = s.progress ∧ (backoffRunsOut s).roster = s.roster ∧
    (backoffRunsOut s).rollCall = s.rollCall ∧ (backoffRunsOut s).map = s.map ∧
    (backoffRunsOut s).inb = s.inb ∧ (backoffRunsOut s).mem = s.mem ∧ (backoffRunsOut s).trig = s.trig ∧
    (backoffRunsOut s).guard = s.guard ∧ (backoffRunsOut s).frame = s.frame ∧
    (backoffRunsOut s).service = s.service ∧ (backoffRunsOut s).setup = s.setup ∧
    (backoffRunsOut s).settings = s.settings ∧ (backoffRunsOut s).snapshots = s.snapshots ∧
    (backoffRunsOut s).pending = s.pending ∧
    (backoffRunsOut s).freeDraws = s.freeDraws ∧ (backoffRunsOut s).trunk.switch = s.trunk.switch ∧
    (backoffRunsOut s).trunk.sending = s.trunk.sending ∧ (backoffRunsOut s).tb.role = s.tb.role ∧
    (backoffRunsOut s).tb.designated = s.tb.designated ∧ (backoffRunsOut s).tb.period = s.tb.period ∧
    (backoffRunsOut s).tb.lock = s.tb.lock ∧ (backoffRunsOut s).tb.listen = s.tb.listen ∧
    (backoffRunsOut s).tb.missed = s.tb.missed ∧ (backoffRunsOut s).tb.expected = s.tb.expected ∧
    (backoffRunsOut s).tb.markDue = s.tb.markDue ∧ (backoffRunsOut s).tb.orphan = s.tb.orphan := by
  unfold backoffRunsOut; (try dsimp only); (repeat' split) <;> simp

@[simp] theorem lossAges_frame (s : State) :
    (lossAges s).powered = s.powered ∧ (lossAges s).pins = s.pins ∧ (lossAges s).trunk = s.trunk ∧
    (lossAges s).framer = s.framer ∧ (lossAges s).station = s.station ∧ (lossAges s).progress = s.progress ∧
    (lossAges s).roster = s.roster ∧ (lossAges s).rollCall = s.rollCall ∧ (lossAges s).map = s.map ∧
    (lossAges s).out = s.out ∧ (lossAges s).inb = s.inb ∧ (lossAges s).mem = s.mem ∧
    (lossAges s).trig = s.trig ∧ (lossAges s).guard = s.guard ∧ (lossAges s).frame = s.frame ∧
    (lossAges s).service = s.service ∧ (lossAges s).setup = s.setup ∧ (lossAges s).settings = s.settings ∧
    (lossAges s).snapshots = s.snapshots ∧ (lossAges s).pending = s.pending ∧
    (lossAges s).freeDraws = s.freeDraws ∧
    (lossAges s).tb.role = s.tb.role ∧ (lossAges s).tb.designated = s.tb.designated ∧
    (lossAges s).tb.election = s.tb.election ∧ (lossAges s).tb.period = s.tb.period ∧
    (lossAges s).tb.lock = s.tb.lock ∧ (lossAges s).tb.listen = s.tb.listen ∧
    (lossAges s).tb.missed = s.tb.missed ∧ (lossAges s).tb.expected = s.tb.expected ∧
    (lossAges s).tb.markDue = s.tb.markDue ∧ (lossAges s).tb.orphan = s.tb.orphan := by
  unfold lossAges; (try dsimp only); (repeat' split) <;> simp

@[simp] theorem listenRunsOut_frame (s : State) :
    (listenRunsOut s).powered = s.powered ∧ (listenRunsOut s).pins = s.pins ∧
    (listenRunsOut s).trunk = s.trunk ∧ (listenRunsOut s).framer = s.framer ∧
    (listenRunsOut s).roster = s.roster ∧ (listenRunsOut s).rollCall = s.rollCall ∧
    (listenRunsOut s).map = s.map ∧ (listenRunsOut s).out = s.out ∧ (listenRunsOut s).inb = s.inb ∧
    (listenRunsOut s).mem = s.mem ∧ (listenRunsOut s).trig = s.trig ∧ (listenRunsOut s).guard = s.guard ∧
    (listenRunsOut s).frame = s.frame ∧ (listenRunsOut s).service = s.service ∧
    (listenRunsOut s).setup = s.setup ∧ (listenRunsOut s).settings = s.settings ∧
    (listenRunsOut s).snapshots = s.snapshots ∧ (listenRunsOut s).pending = s.pending ∧
    (listenRunsOut s).freeDraws = s.freeDraws ∧
    (listenRunsOut s).tb.role = s.tb.role ∧ (listenRunsOut s).tb.designated = s.tb.designated ∧
    (listenRunsOut s).tb.election = s.tb.election ∧ (listenRunsOut s).tb.period = s.tb.period ∧
    (listenRunsOut s).tb.lock = s.tb.lock ∧ (listenRunsOut s).tb.missed = s.tb.missed ∧
    (listenRunsOut s).tb.expected = s.tb.expected ∧ (listenRunsOut s).tb.markDue = s.tb.markDue ∧
    (listenRunsOut s).tb.orphan = s.tb.orphan := by
  unfold listenRunsOut; (try dsimp only); (repeat' split) <;> simp

@[simp] theorem attemptTimesOut_frame (s : State) :
    (attemptTimesOut s).powered = s.powered ∧ (attemptTimesOut s).pins = s.pins ∧
    (attemptTimesOut s).framer = s.framer ∧ (attemptTimesOut s).rollCall = s.rollCall ∧
    (attemptTimesOut s).mem = s.mem ∧ (attemptTimesOut s).frame = s.frame ∧
    (attemptTimesOut s).service = s.service ∧ (attemptTimesOut s).setup = s.setup ∧
    (attemptTimesOut s).settings = s.settings ∧ (attemptTimesOut s).snapshots = s.snapshots ∧
    (attemptTimesOut s).pending = s.pending ∧
    (attemptTimesOut s).freeDraws = s.freeDraws ∧ (attemptTimesOut s).trunk.switch = s.trunk.switch ∧
    (attemptTimesOut s).trunk.sending = s.trunk.sending ∧ (attemptTimesOut s).tb.role = s.tb.role ∧
    (attemptTimesOut s).tb.designated = s.tb.designated ∧ (attemptTimesOut s).tb.period = s.tb.period ∧
    (attemptTimesOut s).guard.thresholds = s.guard.thresholds ∧ (attemptTimesOut s).tb.lock = s.tb.lock ∧
    (attemptTimesOut s).tb.missed = s.tb.missed ∧ (attemptTimesOut s).tb.expected = s.tb.expected ∧
    (attemptTimesOut s).tb.markDue = s.tb.markDue ∧ (attemptTimesOut s).tb.orphan = s.tb.orphan ∧
    (attemptTimesOut s).trig.settings = s.trig.settings ∧ (attemptTimesOut s).trig.filtered = s.trig.filtered := by
  unfold attemptTimesOut; (try dsimp only); (repeat' split) <;> simp

@[simp] theorem leavingTimesOut_frame (s : State) :
    (leavingTimesOut s).powered = s.powered ∧ (leavingTimesOut s).pins = s.pins ∧
    (leavingTimesOut s).trunk = s.trunk ∧ (leavingTimesOut s).framer = s.framer ∧
    (leavingTimesOut s).rollCall = s.rollCall ∧ (leavingTimesOut s).mem = s.mem ∧
    (leavingTimesOut s).frame = s.frame ∧ (leavingTimesOut s).service = s.service ∧
    (leavingTimesOut s).setup = s.setup ∧ (leavingTimesOut s).settings = s.settings ∧
    (leavingTimesOut s).snapshots = s.snapshots ∧ (leavingTimesOut s).pending = s.pending ∧
    (leavingTimesOut s).freeDraws = s.freeDraws ∧
    (leavingTimesOut s).tb.role = s.tb.role ∧ (leavingTimesOut s).tb.designated = s.tb.designated ∧
    (leavingTimesOut s).tb.election = s.tb.election ∧ (leavingTimesOut s).tb.period = s.tb.period ∧
    (leavingTimesOut s).guard.thresholds = s.guard.thresholds ∧ (leavingTimesOut s).tb.lock = s.tb.lock ∧
    (leavingTimesOut s).tb.missed = s.tb.missed ∧ (leavingTimesOut s).tb.expected = s.tb.expected ∧
    (leavingTimesOut s).tb.markDue = s.tb.markDue ∧ (leavingTimesOut s).tb.orphan = s.tb.orphan ∧
    (leavingTimesOut s).trig.settings = s.trig.settings ∧ (leavingTimesOut s).trig.filtered = s.trig.filtered := by
  unfold leavingTimesOut; (try dsimp only); (repeat' split) <;> simp

@[simp] theorem guardPeriodEnds_frame (s : State) :
    (guardPeriodEnds s).powered = s.powered ∧ (guardPeriodEnds s).pins = s.pins ∧
    (guardPeriodEnds s).trunk = s.trunk ∧ (guardPeriodEnds s).framer = s.framer ∧
    (guardPeriodEnds s).roster = s.roster ∧ (guardPeriodEnds s).rollCall = s.rollCall ∧
    (guardPeriodEnds s).inb = s.inb ∧ (guardPeriodEnds s).mem = s.mem ∧ (guardPeriodEnds s).trig = s.trig ∧
    (guardPeriodEnds s).frame = s.frame ∧ (guardPeriodEnds s).service = s.service ∧
    (guardPeriodEnds s).setup = s.setup ∧ (guardPeriodEnds s).settings = s.settings ∧
    (guardPeriodEnds s).snapshots = s.snapshots ∧ (guardPeriodEnds s).pending = s.pending ∧
    (guardPeriodEnds s).freeDraws = s.freeDraws ∧
    (guardPeriodEnds s).tb.role = s.tb.role ∧ (guardPeriodEnds s).tb.designated = s.tb.designated ∧
    (guardPeriodEnds s).tb.election = s.tb.election ∧ (guardPeriodEnds s).tb.period = s.tb.period ∧
    (guardPeriodEnds s).guard.thresholds = s.guard.thresholds ∧ (guardPeriodEnds s).map.resync = s.map.resync ∧
    (guardPeriodEnds s).map.epoch = s.map.epoch ∧ (guardPeriodEnds s).tb.lock = s.tb.lock ∧
    (guardPeriodEnds s).tb.missed = s.tb.missed ∧ (guardPeriodEnds s).tb.expected = s.tb.expected ∧
    (guardPeriodEnds s).tb.markDue = s.tb.markDue ∧ (guardPeriodEnds s).tb.orphan = s.tb.orphan := by
  unfold guardPeriodEnds; (try dsimp only); (repeat' split) <;> simp

@[simp] theorem makeTrigger_frame (t : Trigger) (s : State) :
    (makeTrigger t s).powered = s.powered ∧ (makeTrigger t s).pins = s.pins ∧
    (makeTrigger t s).clock = s.clock ∧ (makeTrigger t s).trunk = s.trunk ∧
    (makeTrigger t s).framer = s.framer ∧ (makeTrigger t s).tb = s.tb ∧ (makeTrigger t s).station = s.station ∧
    (makeTrigger t s).progress = s.progress ∧ (makeTrigger t s).roster = s.roster ∧
    (makeTrigger t s).rollCall = s.rollCall ∧ (makeTrigger t s).map = s.map ∧ (makeTrigger t s).out = s.out ∧
    (makeTrigger t s).mem = s.mem ∧ (makeTrigger t s).guard = s.guard ∧ (makeTrigger t s).frame = s.frame ∧
    (makeTrigger t s).service = s.service ∧ (makeTrigger t s).setup = s.setup ∧
    (makeTrigger t s).settings = s.settings ∧ (makeTrigger t s).snapshots = s.snapshots ∧
    (makeTrigger t s).flags = s.flags ∧ (makeTrigger t s).pending = s.pending ∧
    (makeTrigger t s).freeDraws = s.freeDraws ∧
    (makeTrigger t s).trig.pendingTrigger = s.trig.pendingTrigger ∧
    (makeTrigger t s).trig.settings = s.trig.settings ∧ (makeTrigger t s).trig.filtered = s.trig.filtered := by
  unfold makeTrigger; (try dsimp only); (repeat' split) <;> simp

@[simp] theorem fillSlot_frame (t : Trigger) (s : State) :
    (fillSlot t s).powered = s.powered ∧ (fillSlot t s).pins = s.pins ∧ (fillSlot t s).clock = s.clock ∧
    (fillSlot t s).trunk = s.trunk ∧ (fillSlot t s).framer = s.framer ∧ (fillSlot t s).tb = s.tb ∧
    (fillSlot t s).station = s.station ∧ (fillSlot t s).progress = s.progress ∧
    (fillSlot t s).roster = s.roster ∧ (fillSlot t s).rollCall = s.rollCall ∧ (fillSlot t s).map = s.map ∧
    (fillSlot t s).out = s.out ∧ (fillSlot t s).inb = s.inb ∧ (fillSlot t s).mem = s.mem ∧
    (fillSlot t s).guard = s.guard ∧ (fillSlot t s).frame = s.frame ∧ (fillSlot t s).service = s.service ∧
    (fillSlot t s).setup = s.setup ∧ (fillSlot t s).settings = s.settings ∧
    (fillSlot t s).snapshots = s.snapshots ∧ (fillSlot t s).pending = s.pending ∧
    (fillSlot t s).freeDraws = s.freeDraws ∧
    (fillSlot t s).trig.settings = s.trig.settings ∧ (fillSlot t s).trig.filtered = s.trig.filtered := by
  unfold fillSlot; (try dsimp only); (repeat' split) <;> simp

@[simp] theorem edge_frame (time : Nat) (s : State) :
    (edge time s).powered = s.powered ∧ (edge time s).pins = s.pins ∧ (edge time s).clock = s.clock ∧
    (edge time s).trunk = s.trunk ∧ (edge time s).framer = s.framer ∧ (edge time s).tb = s.tb ∧
    (edge time s).station = s.station ∧ (edge time s).progress = s.progress ∧ (edge time s).roster = s.roster ∧
    (edge time s).rollCall = s.rollCall ∧ (edge time s).map = s.map ∧ (edge time s).out = s.out ∧
    (edge time s).mem = s.mem ∧ (edge time s).guard = s.guard ∧ (edge time s).frame = s.frame ∧
    (edge time s).service = s.service ∧ (edge time s).setup = s.setup ∧ (edge time s).settings = s.settings ∧
    (edge time s).snapshots = s.snapshots ∧ (edge time s).pending = s.pending ∧
    (edge time s).freeDraws = s.freeDraws ∧
    (edge time s).trig.settings = s.trig.settings ∧ (edge time s).trig.filtered = s.trig.filtered := by
  unfold edge; (try dsimp only); (repeat' split) <;> simp

@[simp] theorem levelsChange_frame (changes : BitVec 4) (time : Nat) (s : State) :
    (levelsChange changes time s).powered = s.powered ∧ (levelsChange changes time s).pins = s.pins ∧
    (levelsChange changes time s).clock = s.clock ∧ (levelsChange changes time s).trunk = s.trunk ∧
    (levelsChange changes time s).framer = s.framer ∧ (levelsChange changes time s).tb = s.tb ∧
    (levelsChange changes time s).station = s.station ∧ (levelsChange changes time s).progress = s.progress ∧
    (levelsChange changes time s).roster = s.roster ∧ (levelsChange changes time s).rollCall = s.rollCall ∧
    (levelsChange changes time s).map = s.map ∧ (levelsChange changes time s).out = s.out ∧
    (levelsChange changes time s).mem = s.mem ∧ (levelsChange changes time s).guard = s.guard ∧
    (levelsChange changes time s).frame = s.frame ∧ (levelsChange changes time s).service = s.service ∧
    (levelsChange changes time s).setup = s.setup ∧ (levelsChange changes time s).settings = s.settings ∧
    (levelsChange changes time s).snapshots = s.snapshots ∧ (levelsChange changes time s).pending = s.pending ∧
    (levelsChange changes time s).freeDraws = s.freeDraws ∧
    (levelsChange changes time s).trig.settings = s.trig.settings := by
  unfold levelsChange; (try dsimp only); (repeat' split) <;> simp

@[simp] theorem filterTakesEffect_frame (due : Nat) (s : State) :
    (filterTakesEffect due s).powered = s.powered ∧ (filterTakesEffect due s).pins = s.pins ∧
    (filterTakesEffect due s).clock = s.clock ∧ (filterTakesEffect due s).trunk = s.trunk ∧
    (filterTakesEffect due s).framer = s.framer ∧ (filterTakesEffect due s).tb = s.tb ∧
    (filterTakesEffect due s).station = s.station ∧ (filterTakesEffect due s).progress = s.progress ∧
    (filterTakesEffect due s).roster = s.roster ∧ (filterTakesEffect due s).rollCall = s.rollCall ∧
    (filterTakesEffect due s).map = s.map ∧ (filterTakesEffect due s).out = s.out ∧
    (filterTakesEffect due s).mem = s.mem ∧ (filterTakesEffect due s).guard = s.guard ∧
    (filterTakesEffect due s).frame = s.frame ∧ (filterTakesEffect due s).service = s.service ∧
    (filterTakesEffect due s).setup = s.setup ∧ (filterTakesEffect due s).settings = s.settings ∧
    (filterTakesEffect due s).snapshots = s.snapshots ∧ (filterTakesEffect due s).pending = s.pending ∧
    (filterTakesEffect due s).freeDraws = s.freeDraws ∧
    (filterTakesEffect due s).trig.settings = s.trig.settings := by
  unfold filterTakesEffect; (try dsimp only); (repeat' split) <;> simp

@[simp] theorem linesChange_frame (levels : BitVec 4) (s : State) :
    (linesChange levels s).powered = s.powered ∧ (linesChange levels s).pins = s.pins ∧
    (linesChange levels s).clock = s.clock ∧ (linesChange levels s).trunk = s.trunk ∧
    (linesChange levels s).framer = s.framer ∧ (linesChange levels s).tb = s.tb ∧
    (linesChange levels s).station = s.station ∧ (linesChange levels s).progress = s.progress ∧
    (linesChange levels s).roster = s.roster ∧ (linesChange levels s).rollCall = s.rollCall ∧
    (linesChange levels s).map = s.map ∧ (linesChange levels s).out = s.out ∧
    (linesChange levels s).mem = s.mem ∧ (linesChange levels s).guard = s.guard ∧
    (linesChange levels s).frame = s.frame ∧ (linesChange levels s).service = s.service ∧
    (linesChange levels s).setup = s.setup ∧ (linesChange levels s).settings = s.settings ∧
    (linesChange levels s).snapshots = s.snapshots ∧ (linesChange levels s).pending = s.pending ∧
    (linesChange levels s).freeDraws = s.freeDraws ∧
    (linesChange levels s).trig.settings = s.trig.settings := by
  unfold linesChange; (try dsimp only); (repeat' split) <;> simp

@[simp] theorem filterRunsOut_frame (s : State) :
    (filterRunsOut s).powered = s.powered ∧ (filterRunsOut s).pins = s.pins ∧
    (filterRunsOut s).trunk = s.trunk ∧ (filterRunsOut s).framer = s.framer ∧ (filterRunsOut s).tb = s.tb ∧
    (filterRunsOut s).station = s.station ∧ (filterRunsOut s).progress = s.progress ∧
    (filterRunsOut s).roster = s.roster ∧ (filterRunsOut s).rollCall = s.rollCall ∧
    (filterRunsOut s).map = s.map ∧ (filterRunsOut s).out = s.out ∧ (filterRunsOut s).mem = s.mem ∧
    (filterRunsOut s).guard = s.guard ∧ (filterRunsOut s).frame = s.frame ∧
    (filterRunsOut s).service = s.service ∧ (filterRunsOut s).setup = s.setup ∧
    (filterRunsOut s).settings = s.settings ∧ (filterRunsOut s).snapshots = s.snapshots ∧
    (filterRunsOut s).pending = s.pending ∧
    (filterRunsOut s).freeDraws = s.freeDraws ∧ (filterRunsOut s).trig.settings = s.trig.settings := by
  unfold filterRunsOut; (try dsimp only); (repeat' split) <;> simp

@[simp] theorem setClosePending_frame (ch : Channel) (s : State) :
    (setClosePending ch s).powered = s.powered ∧ (setClosePending ch s).pins = s.pins ∧
    (setClosePending ch s).clock = s.clock ∧ (setClosePending ch s).framer = s.framer ∧
    (setClosePending ch s).tb = s.tb ∧ (setClosePending ch s).station = s.station ∧
    (setClosePending ch s).progress = s.progress ∧ (setClosePending ch s).roster = s.roster ∧
    (setClosePending ch s).rollCall = s.rollCall ∧ (setClosePending ch s).map = s.map ∧
    (setClosePending ch s).inb = s.inb ∧ (setClosePending ch s).mem = s.mem ∧
    (setClosePending ch s).trig = s.trig ∧ (setClosePending ch s).guard = s.guard ∧
    (setClosePending ch s).frame = s.frame ∧ (setClosePending ch s).service = s.service ∧
    (setClosePending ch s).setup = s.setup ∧ (setClosePending ch s).settings = s.settings ∧
    (setClosePending ch s).snapshots = s.snapshots ∧ (setClosePending ch s).pending = s.pending ∧
    (setClosePending ch s).freeDraws = s.freeDraws ∧
    (setClosePending ch s).trunk.switch = s.trunk.switch ∧
    (setClosePending ch s).trunk.sending = s.trunk.sending := by
  unfold setClosePending; (try dsimp only); (repeat' split) <;> simp

@[simp] theorem rejoinNow_frame (s : State) :
    (rejoinNow s).powered = s.powered ∧ (rejoinNow s).pins = s.pins ∧ (rejoinNow s).clock = s.clock ∧
    (rejoinNow s).trunk = s.trunk ∧ (rejoinNow s).framer = s.framer ∧ (rejoinNow s).rollCall = s.rollCall ∧
    (rejoinNow s).mem = s.mem ∧ (rejoinNow s).frame = s.frame ∧ (rejoinNow s).service = s.service ∧
    (rejoinNow s).setup = s.setup ∧ (rejoinNow s).settings = s.settings ∧
    (rejoinNow s).snapshots = s.snapshots ∧ (rejoinNow s).pending = s.pending ∧
    (rejoinNow s).freeDraws = s.freeDraws ∧
    (rejoinNow s).tb.role = s.tb.role ∧ (rejoinNow s).tb.designated = s.tb.designated ∧
    (rejoinNow s).tb.election = s.tb.election ∧ (rejoinNow s).tb.period = s.tb.period ∧
    (rejoinNow s).guard.thresholds = s.guard.thresholds ∧ (rejoinNow s).tb.lock = s.tb.lock ∧
    (rejoinNow s).tb.missed = s.tb.missed ∧ (rejoinNow s).tb.expected = s.tb.expected ∧
    (rejoinNow s).tb.markDue = s.tb.markDue ∧ (rejoinNow s).tb.orphan = s.tb.orphan ∧
    (rejoinNow s).trig.settings = s.trig.settings ∧ (rejoinNow s).trig.filtered = s.trig.filtered := by
  unfold rejoinNow; (try dsimp only); (repeat' split) <;> simp

@[simp] theorem clearFailures_frame (s : State) :
    (clearFailures s).powered = s.powered ∧ (clearFailures s).pins = s.pins ∧
    (clearFailures s).clock = s.clock ∧ (clearFailures s).trunk = s.trunk ∧
    (clearFailures s).framer = s.framer ∧ (clearFailures s).tb = s.tb ∧
    (clearFailures s).progress = s.progress ∧ (clearFailures s).roster = s.roster ∧
    (clearFailures s).rollCall = s.rollCall ∧ (clearFailures s).map = s.map ∧ (clearFailures s).out = s.out ∧
    (clearFailures s).inb = s.inb ∧ (clearFailures s).mem = s.mem ∧ (clearFailures s).trig = s.trig ∧
    (clearFailures s).guard = s.guard ∧ (clearFailures s).frame = s.frame ∧
    (clearFailures s).service = s.service ∧ (clearFailures s).setup = s.setup ∧
    (clearFailures s).settings = s.settings ∧ (clearFailures s).snapshots = s.snapshots ∧
    (clearFailures s).flags = s.flags ∧ (clearFailures s).pending = s.pending ∧
    (clearFailures s).freeDraws = s.freeDraws ∧
    (clearFailures s).station.state = s.station.state := by
  unfold clearFailures; (try dsimp only); (repeat' split) <;> simp

end Sys2Proof.Machine
end

