-- ==== Sys2Proof/Laws/FrameCommands.lean ====
section
/-! SUPPORT. What each command leaves unchanged, field by field. -/
namespace Sys2Proof.Machine

/-! ### What the frames of commands keep: a field that the effect keeps, the command keeps -/

@[simp] theorem onWatched_powered (i : RefInput) (f : State → State) (h : ∀ s, (f s).powered = s.powered) (s : State) :
    (onWatched i f s).powered = s.powered := by
  unfold onWatched
  split
  · exact h s
  · rfl

@[simp] theorem onWatched_pins (i : RefInput) (f : State → State) (h : ∀ s, (f s).pins = s.pins) (s : State) :
    (onWatched i f s).pins = s.pins := by
  unfold onWatched
  split
  · exact h s
  · rfl

@[simp] theorem onWatched_clock (i : RefInput) (f : State → State) (h : ∀ s, (f s).clock = s.clock) (s : State) :
    (onWatched i f s).clock = s.clock := by
  unfold onWatched
  split
  · exact h s
  · rfl

@[simp] theorem onWatched_trunk (i : RefInput) (f : State → State) (h : ∀ s, (f s).trunk = s.trunk) (s : State) :
    (onWatched i f s).trunk = s.trunk := by
  unfold onWatched
  split
  · exact h s
  · rfl

@[simp] theorem onWatched_framer (i : RefInput) (f : State → State) (h : ∀ s, (f s).framer = s.framer) (s : State) :
    (onWatched i f s).framer = s.framer := by
  unfold onWatched
  split
  · exact h s
  · rfl

@[simp] theorem onWatched_tb (i : RefInput) (f : State → State) (h : ∀ s, (f s).tb = s.tb) (s : State) :
    (onWatched i f s).tb = s.tb := by
  unfold onWatched
  split
  · exact h s
  · rfl

@[simp] theorem onWatched_station (i : RefInput) (f : State → State) (h : ∀ s, (f s).station = s.station) (s : State) :
    (onWatched i f s).station = s.station := by
  unfold onWatched
  split
  · exact h s
  · rfl

@[simp] theorem onWatched_progress (i : RefInput) (f : State → State) (h : ∀ s, (f s).progress = s.progress) (s : State) :
    (onWatched i f s).progress = s.progress := by
  unfold onWatched
  split
  · exact h s
  · rfl

@[simp] theorem onWatched_roster (i : RefInput) (f : State → State) (h : ∀ s, (f s).roster = s.roster) (s : State) :
    (onWatched i f s).roster = s.roster := by
  unfold onWatched
  split
  · exact h s
  · rfl

@[simp] theorem onWatched_rollCall (i : RefInput) (f : State → State) (h : ∀ s, (f s).rollCall = s.rollCall) (s : State) :
    (onWatched i f s).rollCall = s.rollCall := by
  unfold onWatched
  split
  · exact h s
  · rfl

@[simp] theorem onWatched_map (i : RefInput) (f : State → State) (h : ∀ s, (f s).map = s.map) (s : State) :
    (onWatched i f s).map = s.map := by
  unfold onWatched
  split
  · exact h s
  · rfl

@[simp] theorem onWatched_out (i : RefInput) (f : State → State) (h : ∀ s, (f s).out = s.out) (s : State) :
    (onWatched i f s).out = s.out := by
  unfold onWatched
  split
  · exact h s
  · rfl

@[simp] theorem onWatched_inb (i : RefInput) (f : State → State) (h : ∀ s, (f s).inb = s.inb) (s : State) :
    (onWatched i f s).inb = s.inb := by
  unfold onWatched
  split
  · exact h s
  · rfl

@[simp] theorem onWatched_mem (i : RefInput) (f : State → State) (h : ∀ s, (f s).mem = s.mem) (s : State) :
    (onWatched i f s).mem = s.mem := by
  unfold onWatched
  split
  · exact h s
  · rfl

@[simp] theorem onWatched_trig (i : RefInput) (f : State → State) (h : ∀ s, (f s).trig = s.trig) (s : State) :
    (onWatched i f s).trig = s.trig := by
  unfold onWatched
  split
  · exact h s
  · rfl

@[simp] theorem onWatched_guard (i : RefInput) (f : State → State) (h : ∀ s, (f s).guard = s.guard) (s : State) :
    (onWatched i f s).guard = s.guard := by
  unfold onWatched
  split
  · exact h s
  · rfl

@[simp] theorem onWatched_frame (i : RefInput) (f : State → State) (h : ∀ s, (f s).frame = s.frame) (s : State) :
    (onWatched i f s).frame = s.frame := by
  unfold onWatched
  split
  · exact h s
  · rfl

@[simp] theorem onWatched_service (i : RefInput) (f : State → State) (h : ∀ s, (f s).service = s.service) (s : State) :
    (onWatched i f s).service = s.service := by
  unfold onWatched
  split
  · exact h s
  · rfl

@[simp] theorem onWatched_setup (i : RefInput) (f : State → State) (h : ∀ s, (f s).setup = s.setup) (s : State) :
    (onWatched i f s).setup = s.setup := by
  unfold onWatched
  split
  · exact h s
  · rfl

@[simp] theorem onWatched_settings (i : RefInput) (f : State → State) (h : ∀ s, (f s).settings = s.settings) (s : State) :
    (onWatched i f s).settings = s.settings := by
  unfold onWatched
  split
  · exact h s
  · rfl

@[simp] theorem onWatched_snapshots (i : RefInput) (f : State → State) (h : ∀ s, (f s).snapshots = s.snapshots) (s : State) :
    (onWatched i f s).snapshots = s.snapshots := by
  unfold onWatched
  split
  · exact h s
  · rfl

@[simp] theorem onWatched_flags (i : RefInput) (f : State → State) (h : ∀ s, (f s).flags = s.flags) (s : State) :
    (onWatched i f s).flags = s.flags := by
  unfold onWatched
  split
  · exact h s
  · rfl

@[simp] theorem onWatched_pending (i : RefInput) (f : State → State) (h : ∀ s, (f s).pending = s.pending) (s : State) :
    (onWatched i f s).pending = s.pending := by
  unfold onWatched
  split
  · exact h s
  · rfl

@[simp] theorem onWatched_freeDraws (i : RefInput) (f : State → State) (h : ∀ s, (f s).freeDraws = s.freeDraws) (s : State) :
    (onWatched i f s).freeDraws = s.freeDraws := by
  unfold onWatched
  split
  · exact h s
  · rfl

@[simp] theorem onWatched_trunk_switch (i : RefInput) (f : State → State) (h : ∀ s, (f s).trunk.switch = s.trunk.switch) (s : State) :
    (onWatched i f s).trunk.switch = s.trunk.switch := by
  unfold onWatched
  split
  · exact h s
  · rfl

@[simp] theorem onWatched_trunk_sending (i : RefInput) (f : State → State) (h : ∀ s, (f s).trunk.sending = s.trunk.sending) (s : State) :
    (onWatched i f s).trunk.sending = s.trunk.sending := by
  unfold onWatched
  split
  · exact h s
  · rfl

@[simp] theorem onWatched_trunk_queue (i : RefInput) (f : State → State) (h : ∀ s, (f s).trunk.queue = s.trunk.queue) (s : State) :
    (onWatched i f s).trunk.queue = s.trunk.queue := by
  unfold onWatched
  split
  · exact h s
  · rfl

@[simp] theorem onWatched_trunk_waiting (i : RefInput) (f : State → State) (h : ∀ s, (f s).trunk.waiting = s.trunk.waiting) (s : State) :
    (onWatched i f s).trunk.waiting = s.trunk.waiting := by
  unfold onWatched
  split
  · exact h s
  · rfl

@[simp] theorem onWatched_tb_role (i : RefInput) (f : State → State) (h : ∀ s, (f s).tb.role = s.tb.role) (s : State) :
    (onWatched i f s).tb.role = s.tb.role := by
  unfold onWatched
  split
  · exact h s
  · rfl

@[simp] theorem onWatched_tb_designated (i : RefInput) (f : State → State) (h : ∀ s, (f s).tb.designated = s.tb.designated) (s : State) :
    (onWatched i f s).tb.designated = s.tb.designated := by
  unfold onWatched
  split
  · exact h s
  · rfl

@[simp] theorem onWatched_tb_election (i : RefInput) (f : State → State) (h : ∀ s, (f s).tb.election = s.tb.election) (s : State) :
    (onWatched i f s).tb.election = s.tb.election := by
  unfold onWatched
  split
  · exact h s
  · rfl

@[simp] theorem onWatched_tb_period (i : RefInput) (f : State → State) (h : ∀ s, (f s).tb.period = s.tb.period) (s : State) :
    (onWatched i f s).tb.period = s.tb.period := by
  unfold onWatched
  split
  · exact h s
  · rfl

@[simp] theorem onWatched_station_state (i : RefInput) (f : State → State) (h : ∀ s, (f s).station.state = s.station.state) (s : State) :
    (onWatched i f s).station.state = s.station.state := by
  unfold onWatched
  split
  · exact h s
  · rfl

@[simp] theorem onWatched_framer_framed (i : RefInput) (f : State → State) (h : ∀ s, (f s).framer.framed = s.framer.framed) (s : State) :
    (onWatched i f s).framer.framed = s.framer.framed := by
  unfold onWatched
  split
  · exact h s
  · rfl

@[simp] theorem onWatched_framer_round (i : RefInput) (f : State → State) (h : ∀ s, (f s).framer.round = s.framer.round) (s : State) :
    (onWatched i f s).framer.round = s.framer.round := by
  unfold onWatched
  split
  · exact h s
  · rfl

@[simp] theorem onWatched_framer_opening (i : RefInput) (f : State → State) (h : ∀ s, (f s).framer.opening = s.framer.opening) (s : State) :
    (onWatched i f s).framer.opening = s.framer.opening := by
  unfold onWatched
  split
  · exact h s
  · rfl

@[simp] theorem onWatched_guard_state (i : RefInput) (f : State → State) (h : ∀ s, (f s).guard.state = s.guard.state) (s : State) :
    (onWatched i f s).guard.state = s.guard.state := by
  unfold onWatched
  split
  · exact h s
  · rfl

@[simp] theorem onWatched_guard_interval (i : RefInput) (f : State → State) (h : ∀ s, (f s).guard.interval = s.guard.interval) (s : State) :
    (onWatched i f s).guard.interval = s.guard.interval := by
  unfold onWatched
  split
  · exact h s
  · rfl

@[simp] theorem onWatched_guard_thresholds (i : RefInput) (f : State → State) (h : ∀ s, (f s).guard.thresholds = s.guard.thresholds) (s : State) :
    (onWatched i f s).guard.thresholds = s.guard.thresholds := by
  unfold onWatched
  split
  · exact h s
  · rfl

@[simp] theorem onWatched_map_resync (i : RefInput) (f : State → State) (h : ∀ s, (f s).map.resync = s.map.resync) (s : State) :
    (onWatched i f s).map.resync = s.map.resync := by
  unfold onWatched
  split
  · exact h s
  · rfl

@[simp] theorem onWatched_map_entries (i : RefInput) (f : State → State) (h : ∀ s, (f s).map.entries = s.map.entries) (s : State) :
    (onWatched i f s).map.entries = s.map.entries := by
  unfold onWatched
  split
  · exact h s
  · rfl

@[simp] theorem onWatched_map_epoch (i : RefInput) (f : State → State) (h : ∀ s, (f s).map.epoch = s.map.epoch) (s : State) :
    (onWatched i f s).map.epoch = s.map.epoch := by
  unfold onWatched
  split
  · exact h s
  · rfl

@[simp] theorem onWatched_progress_leaveClosingDue (i : RefInput) (f : State → State) (h : ∀ s, (f s).progress.leaveClosingDue = s.progress.leaveClosingDue) (s : State) :
    (onWatched i f s).progress.leaveClosingDue = s.progress.leaveClosingDue := by
  unfold onWatched
  split
  · exact h s
  · rfl

@[simp] theorem onWatched_progress_leavingDue (i : RefInput) (f : State → State) (h : ∀ s, (f s).progress.leavingDue = s.progress.leavingDue) (s : State) :
    (onWatched i f s).progress.leavingDue = s.progress.leavingDue := by
  unfold onWatched
  split
  · exact h s
  · rfl

@[simp] theorem onWatched_progress_ownLeaveTaken (i : RefInput) (f : State → State) (h : ∀ s, (f s).progress.ownLeaveTaken = s.progress.ownLeaveTaken) (s : State) :
    (onWatched i f s).progress.ownLeaveTaken = s.progress.ownLeaveTaken := by
  unfold onWatched
  split
  · exact h s
  · rfl

@[simp] theorem onWatched_tb_lock (i : RefInput) (f : State → State) (h : ∀ s, (f s).tb.lock = s.tb.lock) (s : State) :
    (onWatched i f s).tb.lock = s.tb.lock := by
  unfold onWatched
  split
  · exact h s
  · rfl

@[simp] theorem onWatched_tb_listen (i : RefInput) (f : State → State) (h : ∀ s, (f s).tb.listen = s.tb.listen) (s : State) :
    (onWatched i f s).tb.listen = s.tb.listen := by
  unfold onWatched
  split
  · exact h s
  · rfl

@[simp] theorem onWatched_tb_missed (i : RefInput) (f : State → State) (h : ∀ s, (f s).tb.missed = s.tb.missed) (s : State) :
    (onWatched i f s).tb.missed = s.tb.missed := by
  unfold onWatched
  split
  · exact h s
  · rfl

@[simp] theorem onWatched_tb_expected (i : RefInput) (f : State → State) (h : ∀ s, (f s).tb.expected = s.tb.expected) (s : State) :
    (onWatched i f s).tb.expected = s.tb.expected := by
  unfold onWatched
  split
  · exact h s
  · rfl

@[simp] theorem onWatched_tb_markDue (i : RefInput) (f : State → State) (h : ∀ s, (f s).tb.markDue = s.tb.markDue) (s : State) :
    (onWatched i f s).tb.markDue = s.tb.markDue := by
  unfold onWatched
  split
  · exact h s
  · rfl

@[simp] theorem onWatched_tb_orphan (i : RefInput) (f : State → State) (h : ∀ s, (f s).tb.orphan = s.tb.orphan) (s : State) :
    (onWatched i f s).tb.orphan = s.tb.orphan := by
  unfold onWatched
  split
  · exact h s
  · rfl

@[simp] theorem onWatched_trig_pendingTrigger (i : RefInput) (f : State → State) (h : ∀ s, (f s).trig.pendingTrigger = s.trig.pendingTrigger) (s : State) :
    (onWatched i f s).trig.pendingTrigger = s.trig.pendingTrigger := by
  unfold onWatched
  split
  · exact h s
  · rfl

@[simp] theorem onWatched_trig_settings (i : RefInput) (f : State → State) (h : ∀ s, (f s).trig.settings = s.trig.settings) (s : State) :
    (onWatched i f s).trig.settings = s.trig.settings := by
  unfold onWatched
  split
  · exact h s
  · rfl

@[simp] theorem onWatched_trig_filtered (i : RefInput) (f : State → State) (h : ∀ s, (f s).trig.filtered = s.trig.filtered) (s : State) :
    (onWatched i f s).trig.filtered = s.trig.filtered := by
  unfold onWatched
  split
  · exact h s
  · rfl

@[simp] theorem event_powered (f : State → State) (h : ∀ s, (f s).powered = s.powered) (s : State) :
    (event f s).powered = s.powered := by
  unfold event
  split <;> simp [h]

@[simp] theorem event_pins (f : State → State) (h : ∀ s, (f s).pins = s.pins) (s : State) :
    (event f s).pins = s.pins := by
  unfold event
  split <;> simp [h]

@[simp] theorem event_clock (f : State → State) (h : ∀ s, (f s).clock = s.clock) (s : State) :
    (event f s).clock = s.clock := by
  unfold event
  split <;> simp [h]

@[simp] theorem event_framer (f : State → State) (h : ∀ s, (f s).framer = s.framer) (s : State) :
    (event f s).framer = s.framer := by
  unfold event
  split <;> simp [h]

@[simp] theorem event_station (f : State → State) (h : ∀ s, (f s).station = s.station) (s : State) :
    (event f s).station = s.station := by
  unfold event
  split <;> simp [h]

@[simp] theorem event_progress (f : State → State) (h : ∀ s, (f s).progress = s.progress) (s : State) :
    (event f s).progress = s.progress := by
  unfold event
  split <;> simp [h]

@[simp] theorem event_roster (f : State → State) (h : ∀ s, (f s).roster = s.roster) (s : State) :
    (event f s).roster = s.roster := by
  unfold event
  split <;> simp [h]

@[simp] theorem event_rollCall (f : State → State) (h : ∀ s, (f s).rollCall = s.rollCall) (s : State) :
    (event f s).rollCall = s.rollCall := by
  unfold event
  split <;> simp [h]

@[simp] theorem event_map (f : State → State) (h : ∀ s, (f s).map = s.map) (s : State) :
    (event f s).map = s.map := by
  unfold event
  split <;> simp [h]

@[simp] theorem event_inb (f : State → State) (h : ∀ s, (f s).inb = s.inb) (s : State) :
    (event f s).inb = s.inb := by
  unfold event
  split <;> simp [h]

@[simp] theorem event_mem (f : State → State) (h : ∀ s, (f s).mem = s.mem) (s : State) :
    (event f s).mem = s.mem := by
  unfold event
  split <;> simp [h]

@[simp] theorem event_trig (f : State → State) (h : ∀ s, (f s).trig = s.trig) (s : State) :
    (event f s).trig = s.trig := by
  unfold event
  split <;> simp [h]

@[simp] theorem event_guard (f : State → State) (h : ∀ s, (f s).guard = s.guard) (s : State) :
    (event f s).guard = s.guard := by
  unfold event
  split <;> simp [h]

@[simp] theorem event_frame (f : State → State) (h : ∀ s, (f s).frame = s.frame) (s : State) :
    (event f s).frame = s.frame := by
  unfold event
  split <;> simp [h]

@[simp] theorem event_service (f : State → State) (h : ∀ s, (f s).service = s.service) (s : State) :
    (event f s).service = s.service := by
  unfold event
  split <;> simp [h]

@[simp] theorem event_setup (f : State → State) (h : ∀ s, (f s).setup = s.setup) (s : State) :
    (event f s).setup = s.setup := by
  unfold event
  split <;> simp [h]

@[simp] theorem event_settings (f : State → State) (h : ∀ s, (f s).settings = s.settings) (s : State) :
    (event f s).settings = s.settings := by
  unfold event
  split <;> simp [h]

@[simp] theorem event_snapshots (f : State → State) (h : ∀ s, (f s).snapshots = s.snapshots) (s : State) :
    (event f s).snapshots = s.snapshots := by
  unfold event
  split <;> simp [h]

@[simp] theorem event_pending (f : State → State) (h : ∀ s, (f s).pending = s.pending) (s : State) :
    (event f s).pending = s.pending := by
  unfold event
  split <;> simp [h]

@[simp] theorem event_freeDraws (f : State → State) (h : ∀ s, (f s).freeDraws = s.freeDraws) (s : State) :
    (event f s).freeDraws = s.freeDraws := by
  unfold event
  split <;> simp [h]

@[simp] theorem event_trunk_switch (f : State → State) (h : ∀ s, (f s).trunk.switch = s.trunk.switch) (s : State) :
    (event f s).trunk.switch = s.trunk.switch := by
  unfold event
  split <;> simp [h]

@[simp] theorem event_trunk_sending (f : State → State) (h : ∀ s, (f s).trunk.sending = s.trunk.sending) (s : State) :
    (event f s).trunk.sending = s.trunk.sending := by
  unfold event
  split <;> simp [h]

@[simp] theorem event_tb_period (f : State → State) (h : ∀ s, (f s).tb.period = s.tb.period) (s : State) :
    (event f s).tb.period = s.tb.period := by
  unfold event
  split <;> simp [h]

@[simp] theorem event_station_state (f : State → State) (h : ∀ s, (f s).station.state = s.station.state) (s : State) :
    (event f s).station.state = s.station.state := by
  unfold event
  split <;> simp [h]

@[simp] theorem event_framer_framed (f : State → State) (h : ∀ s, (f s).framer.framed = s.framer.framed) (s : State) :
    (event f s).framer.framed = s.framer.framed := by
  unfold event
  split <;> simp [h]

@[simp] theorem event_framer_round (f : State → State) (h : ∀ s, (f s).framer.round = s.framer.round) (s : State) :
    (event f s).framer.round = s.framer.round := by
  unfold event
  split <;> simp [h]

@[simp] theorem event_framer_opening (f : State → State) (h : ∀ s, (f s).framer.opening = s.framer.opening) (s : State) :
    (event f s).framer.opening = s.framer.opening := by
  unfold event
  split <;> simp [h]

@[simp] theorem event_guard_state (f : State → State) (h : ∀ s, (f s).guard.state = s.guard.state) (s : State) :
    (event f s).guard.state = s.guard.state := by
  unfold event
  split <;> simp [h]

@[simp] theorem event_guard_interval (f : State → State) (h : ∀ s, (f s).guard.interval = s.guard.interval) (s : State) :
    (event f s).guard.interval = s.guard.interval := by
  unfold event
  split <;> simp [h]

@[simp] theorem event_guard_thresholds (f : State → State) (h : ∀ s, (f s).guard.thresholds = s.guard.thresholds) (s : State) :
    (event f s).guard.thresholds = s.guard.thresholds := by
  unfold event
  split <;> simp [h]

@[simp] theorem event_map_resync (f : State → State) (h : ∀ s, (f s).map.resync = s.map.resync) (s : State) :
    (event f s).map.resync = s.map.resync := by
  unfold event
  split <;> simp [h]

@[simp] theorem event_map_entries (f : State → State) (h : ∀ s, (f s).map.entries = s.map.entries) (s : State) :
    (event f s).map.entries = s.map.entries := by
  unfold event
  split <;> simp [h]

@[simp] theorem event_map_epoch (f : State → State) (h : ∀ s, (f s).map.epoch = s.map.epoch) (s : State) :
    (event f s).map.epoch = s.map.epoch := by
  unfold event
  split <;> simp [h]

@[simp] theorem event_progress_leaveClosingDue (f : State → State) (h : ∀ s, (f s).progress.leaveClosingDue = s.progress.leaveClosingDue) (s : State) :
    (event f s).progress.leaveClosingDue = s.progress.leaveClosingDue := by
  unfold event
  split <;> simp [h]

@[simp] theorem event_progress_leavingDue (f : State → State) (h : ∀ s, (f s).progress.leavingDue = s.progress.leavingDue) (s : State) :
    (event f s).progress.leavingDue = s.progress.leavingDue := by
  unfold event
  split <;> simp [h]

@[simp] theorem event_progress_ownLeaveTaken (f : State → State) (h : ∀ s, (f s).progress.ownLeaveTaken = s.progress.ownLeaveTaken) (s : State) :
    (event f s).progress.ownLeaveTaken = s.progress.ownLeaveTaken := by
  unfold event
  split <;> simp [h]

@[simp] theorem event_tb_listen (f : State → State) (h : ∀ s, (f s).tb.listen = s.tb.listen) (s : State) :
    (event f s).tb.listen = s.tb.listen := by
  unfold event
  split <;> simp [h]

@[simp] theorem event_trig_pendingTrigger (f : State → State) (h : ∀ s, (f s).trig.pendingTrigger = s.trig.pendingTrigger) (s : State) :
    (event f s).trig.pendingTrigger = s.trig.pendingTrigger := by
  unfold event
  split <;> simp [h]

@[simp] theorem event_trig_settings (f : State → State) (h : ∀ s, (f s).trig.settings = s.trig.settings) (s : State) :
    (event f s).trig.settings = s.trig.settings := by
  unfold event
  split <;> simp [h]

@[simp] theorem event_trig_filtered (f : State → State) (h : ∀ s, (f s).trig.filtered = s.trig.filtered) (s : State) :
    (event f s).trig.filtered = s.trig.filtered := by
  unfold event
  split <;> simp [h]

@[simp] theorem hear_powered (p : Packet) (own : Option QueueEntry → State → State) (other : State → State)
    (h₁ : ∀ e s, (own e s).powered = s.powered) (h₂ : ∀ s, (other s).powered = s.powered) (s : State) :
    (hear p own other s).powered = s.powered := by
  unfold hear
  split
  · simp [h₁]
  · split
    · simp [h₂]
    · simp [hearFailed]

@[simp] theorem hear_pins (p : Packet) (own : Option QueueEntry → State → State) (other : State → State)
    (h₁ : ∀ e s, (own e s).pins = s.pins) (h₂ : ∀ s, (other s).pins = s.pins) (s : State) :
    (hear p own other s).pins = s.pins := by
  unfold hear
  split
  · simp [h₁]
  · split
    · simp [h₂]
    · simp [hearFailed]

@[simp] theorem hear_clock (p : Packet) (own : Option QueueEntry → State → State) (other : State → State)
    (h₁ : ∀ e s, (own e s).clock = s.clock) (h₂ : ∀ s, (other s).clock = s.clock) (s : State) :
    (hear p own other s).clock = s.clock := by
  unfold hear
  split
  · simp [h₁]
  · split
    · simp [h₂]
    · simp [hearFailed]

@[simp] theorem hear_framer (p : Packet) (own : Option QueueEntry → State → State) (other : State → State)
    (h₁ : ∀ e s, (own e s).framer = s.framer) (h₂ : ∀ s, (other s).framer = s.framer) (s : State) :
    (hear p own other s).framer = s.framer := by
  unfold hear
  split
  · simp [h₁]
  · split
    · simp [h₂]
    · simp [hearFailed]

@[simp] theorem hear_tb (p : Packet) (own : Option QueueEntry → State → State) (other : State → State)
    (h₁ : ∀ e s, (own e s).tb = s.tb) (h₂ : ∀ s, (other s).tb = s.tb) (s : State) :
    (hear p own other s).tb = s.tb := by
  unfold hear
  split
  · simp [h₁]
  · split
    · simp [h₂]
    · simp [hearFailed]

@[simp] theorem hear_station (p : Packet) (own : Option QueueEntry → State → State) (other : State → State)
    (h₁ : ∀ e s, (own e s).station = s.station) (h₂ : ∀ s, (other s).station = s.station) (s : State) :
    (hear p own other s).station = s.station := by
  unfold hear
  split
  · simp [h₁]
  · split
    · simp [h₂]
    · simp [hearFailed]

@[simp] theorem hear_progress (p : Packet) (own : Option QueueEntry → State → State) (other : State → State)
    (h₁ : ∀ e s, (own e s).progress = s.progress) (h₂ : ∀ s, (other s).progress = s.progress) (s : State) :
    (hear p own other s).progress = s.progress := by
  unfold hear
  split
  · simp [h₁]
  · split
    · simp [h₂]
    · simp [hearFailed]

@[simp] theorem hear_roster (p : Packet) (own : Option QueueEntry → State → State) (other : State → State)
    (h₁ : ∀ e s, (own e s).roster = s.roster) (h₂ : ∀ s, (other s).roster = s.roster) (s : State) :
    (hear p own other s).roster = s.roster := by
  unfold hear
  split
  · simp [h₁]
  · split
    · simp [h₂]
    · simp [hearFailed]

@[simp] theorem hear_rollCall (p : Packet) (own : Option QueueEntry → State → State) (other : State → State)
    (h₁ : ∀ e s, (own e s).rollCall = s.rollCall) (h₂ : ∀ s, (other s).rollCall = s.rollCall) (s : State) :
    (hear p own other s).rollCall = s.rollCall := by
  unfold hear
  split
  · simp [h₁]
  · split
    · simp [h₂]
    · simp [hearFailed]

@[simp] theorem hear_map (p : Packet) (own : Option QueueEntry → State → State) (other : State → State)
    (h₁ : ∀ e s, (own e s).map = s.map) (h₂ : ∀ s, (other s).map = s.map) (s : State) :
    (hear p own other s).map = s.map := by
  unfold hear
  split
  · simp [h₁]
  · split
    · simp [h₂]
    · simp [hearFailed]

@[simp] theorem hear_out (p : Packet) (own : Option QueueEntry → State → State) (other : State → State)
    (h₁ : ∀ e s, (own e s).out = s.out) (h₂ : ∀ s, (other s).out = s.out) (s : State) :
    (hear p own other s).out = s.out := by
  unfold hear
  split
  · simp [h₁]
  · split
    · simp [h₂]
    · simp [hearFailed]

@[simp] theorem hear_inb (p : Packet) (own : Option QueueEntry → State → State) (other : State → State)
    (h₁ : ∀ e s, (own e s).inb = s.inb) (h₂ : ∀ s, (other s).inb = s.inb) (s : State) :
    (hear p own other s).inb = s.inb := by
  unfold hear
  split
  · simp [h₁]
  · split
    · simp [h₂]
    · simp [hearFailed]

@[simp] theorem hear_mem (p : Packet) (own : Option QueueEntry → State → State) (other : State → State)
    (h₁ : ∀ e s, (own e s).mem = s.mem) (h₂ : ∀ s, (other s).mem = s.mem) (s : State) :
    (hear p own other s).mem = s.mem := by
  unfold hear
  split
  · simp [h₁]
  · split
    · simp [h₂]
    · simp [hearFailed]

@[simp] theorem hear_trig (p : Packet) (own : Option QueueEntry → State → State) (other : State → State)
    (h₁ : ∀ e s, (own e s).trig = s.trig) (h₂ : ∀ s, (other s).trig = s.trig) (s : State) :
    (hear p own other s).trig = s.trig := by
  unfold hear
  split
  · simp [h₁]
  · split
    · simp [h₂]
    · simp [hearFailed]

@[simp] theorem hear_frame (p : Packet) (own : Option QueueEntry → State → State) (other : State → State)
    (h₁ : ∀ e s, (own e s).frame = s.frame) (h₂ : ∀ s, (other s).frame = s.frame) (s : State) :
    (hear p own other s).frame = s.frame := by
  unfold hear
  split
  · simp [h₁]
  · split
    · simp [h₂]
    · simp [hearFailed]

@[simp] theorem hear_service (p : Packet) (own : Option QueueEntry → State → State) (other : State → State)
    (h₁ : ∀ e s, (own e s).service = s.service) (h₂ : ∀ s, (other s).service = s.service) (s : State) :
    (hear p own other s).service = s.service := by
  unfold hear
  split
  · simp [h₁]
  · split
    · simp [h₂]
    · simp [hearFailed]

@[simp] theorem hear_setup (p : Packet) (own : Option QueueEntry → State → State) (other : State → State)
    (h₁ : ∀ e s, (own e s).setup = s.setup) (h₂ : ∀ s, (other s).setup = s.setup) (s : State) :
    (hear p own other s).setup = s.setup := by
  unfold hear
  split
  · simp [h₁]
  · split
    · simp [h₂]
    · simp [hearFailed]

@[simp] theorem hear_settings (p : Packet) (own : Option QueueEntry → State → State) (other : State → State)
    (h₁ : ∀ e s, (own e s).settings = s.settings) (h₂ : ∀ s, (other s).settings = s.settings) (s : State) :
    (hear p own other s).settings = s.settings := by
  unfold hear
  split
  · simp [h₁]
  · split
    · simp [h₂]
    · simp [hearFailed]

@[simp] theorem hear_snapshots (p : Packet) (own : Option QueueEntry → State → State) (other : State → State)
    (h₁ : ∀ e s, (own e s).snapshots = s.snapshots) (h₂ : ∀ s, (other s).snapshots = s.snapshots) (s : State) :
    (hear p own other s).snapshots = s.snapshots := by
  unfold hear
  split
  · simp [h₁]
  · split
    · simp [h₂]
    · simp [hearFailed]

@[simp] theorem hear_pending (p : Packet) (own : Option QueueEntry → State → State) (other : State → State)
    (h₁ : ∀ e s, (own e s).pending = s.pending) (h₂ : ∀ s, (other s).pending = s.pending) (s : State) :
    (hear p own other s).pending = s.pending := by
  unfold hear
  split
  · simp [h₁]
  · split
    · simp [h₂]
    · simp [hearFailed]

@[simp] theorem hear_freeDraws (p : Packet) (own : Option QueueEntry → State → State) (other : State → State)
    (h₁ : ∀ e s, (own e s).freeDraws = s.freeDraws) (h₂ : ∀ s, (other s).freeDraws = s.freeDraws) (s : State) :
    (hear p own other s).freeDraws = s.freeDraws := by
  unfold hear
  split
  · simp [h₁]
  · split
    · simp [h₂]
    · simp [hearFailed]

@[simp] theorem hear_trunk_switch (p : Packet) (own : Option QueueEntry → State → State) (other : State → State)
    (h₁ : ∀ e s, (own e s).trunk.switch = s.trunk.switch) (h₂ : ∀ s, (other s).trunk.switch = s.trunk.switch) (s : State) :
    (hear p own other s).trunk.switch = s.trunk.switch := by
  unfold hear
  split
  · simp [h₁]
  · split
    · simp [h₂]
    · simp [hearFailed]

@[simp] theorem hear_trunk_waiting (p : Packet) (own : Option QueueEntry → State → State) (other : State → State)
    (h₁ : ∀ e s, (own e s).trunk.waiting = s.trunk.waiting) (h₂ : ∀ s, (other s).trunk.waiting = s.trunk.waiting) (s : State) :
    (hear p own other s).trunk.waiting = s.trunk.waiting := by
  unfold hear
  split
  · simp [h₁]
  · split
    · simp [h₂]
    · simp [hearFailed]

@[simp] theorem hear_tb_role (p : Packet) (own : Option QueueEntry → State → State) (other : State → State)
    (h₁ : ∀ e s, (own e s).tb.role = s.tb.role) (h₂ : ∀ s, (other s).tb.role = s.tb.role) (s : State) :
    (hear p own other s).tb.role = s.tb.role := by
  unfold hear
  split
  · simp [h₁]
  · split
    · simp [h₂]
    · simp [hearFailed]

@[simp] theorem hear_tb_designated (p : Packet) (own : Option QueueEntry → State → State) (other : State → State)
    (h₁ : ∀ e s, (own e s).tb.designated = s.tb.designated) (h₂ : ∀ s, (other s).tb.designated = s.tb.designated) (s : State) :
    (hear p own other s).tb.designated = s.tb.designated := by
  unfold hear
  split
  · simp [h₁]
  · split
    · simp [h₂]
    · simp [hearFailed]

@[simp] theorem hear_tb_election (p : Packet) (own : Option QueueEntry → State → State) (other : State → State)
    (h₁ : ∀ e s, (own e s).tb.election = s.tb.election) (h₂ : ∀ s, (other s).tb.election = s.tb.election) (s : State) :
    (hear p own other s).tb.election = s.tb.election := by
  unfold hear
  split
  · simp [h₁]
  · split
    · simp [h₂]
    · simp [hearFailed]

@[simp] theorem hear_tb_period (p : Packet) (own : Option QueueEntry → State → State) (other : State → State)
    (h₁ : ∀ e s, (own e s).tb.period = s.tb.period) (h₂ : ∀ s, (other s).tb.period = s.tb.period) (s : State) :
    (hear p own other s).tb.period = s.tb.period := by
  unfold hear
  split
  · simp [h₁]
  · split
    · simp [h₂]
    · simp [hearFailed]

@[simp] theorem hear_station_state (p : Packet) (own : Option QueueEntry → State → State) (other : State → State)
    (h₁ : ∀ e s, (own e s).station.state = s.station.state) (h₂ : ∀ s, (other s).station.state = s.station.state) (s : State) :
    (hear p own other s).station.state = s.station.state := by
  unfold hear
  split
  · simp [h₁]
  · split
    · simp [h₂]
    · simp [hearFailed]

@[simp] theorem hear_framer_framed (p : Packet) (own : Option QueueEntry → State → State) (other : State → State)
    (h₁ : ∀ e s, (own e s).framer.framed = s.framer.framed) (h₂ : ∀ s, (other s).framer.framed = s.framer.framed) (s : State) :
    (hear p own other s).framer.framed = s.framer.framed := by
  unfold hear
  split
  · simp [h₁]
  · split
    · simp [h₂]
    · simp [hearFailed]

@[simp] theorem hear_framer_round (p : Packet) (own : Option QueueEntry → State → State) (other : State → State)
    (h₁ : ∀ e s, (own e s).framer.round = s.framer.round) (h₂ : ∀ s, (other s).framer.round = s.framer.round) (s : State) :
    (hear p own other s).framer.round = s.framer.round := by
  unfold hear
  split
  · simp [h₁]
  · split
    · simp [h₂]
    · simp [hearFailed]

@[simp] theorem hear_framer_opening (p : Packet) (own : Option QueueEntry → State → State) (other : State → State)
    (h₁ : ∀ e s, (own e s).framer.opening = s.framer.opening) (h₂ : ∀ s, (other s).framer.opening = s.framer.opening) (s : State) :
    (hear p own other s).framer.opening = s.framer.opening := by
  unfold hear
  split
  · simp [h₁]
  · split
    · simp [h₂]
    · simp [hearFailed]

@[simp] theorem hear_guard_interval (p : Packet) (own : Option QueueEntry → State → State) (other : State → State)
    (h₁ : ∀ e s, (own e s).guard.interval = s.guard.interval) (h₂ : ∀ s, (other s).guard.interval = s.guard.interval) (s : State) :
    (hear p own other s).guard.interval = s.guard.interval := by
  unfold hear
  split
  · simp [h₁]
  · split
    · simp [h₂]
    · simp [hearFailed]

@[simp] theorem hear_guard_thresholds (p : Packet) (own : Option QueueEntry → State → State) (other : State → State)
    (h₁ : ∀ e s, (own e s).guard.thresholds = s.guard.thresholds) (h₂ : ∀ s, (other s).guard.thresholds = s.guard.thresholds) (s : State) :
    (hear p own other s).guard.thresholds = s.guard.thresholds := by
  unfold hear
  split
  · simp [h₁]
  · split
    · simp [h₂]
    · simp [hearFailed]

@[simp] theorem hear_map_resync (p : Packet) (own : Option QueueEntry → State → State) (other : State → State)
    (h₁ : ∀ e s, (own e s).map.resync = s.map.resync) (h₂ : ∀ s, (other s).map.resync = s.map.resync) (s : State) :
    (hear p own other s).map.resync = s.map.resync := by
  unfold hear
  split
  · simp [h₁]
  · split
    · simp [h₂]
    · simp [hearFailed]

@[simp] theorem hear_map_entries (p : Packet) (own : Option QueueEntry → State → State) (other : State → State)
    (h₁ : ∀ e s, (own e s).map.entries = s.map.entries) (h₂ : ∀ s, (other s).map.entries = s.map.entries) (s : State) :
    (hear p own other s).map.entries = s.map.entries := by
  unfold hear
  split
  · simp [h₁]
  · split
    · simp [h₂]
    · simp [hearFailed]

@[simp] theorem hear_map_epoch (p : Packet) (own : Option QueueEntry → State → State) (other : State → State)
    (h₁ : ∀ e s, (own e s).map.epoch = s.map.epoch) (h₂ : ∀ s, (other s).map.epoch = s.map.epoch) (s : State) :
    (hear p own other s).map.epoch = s.map.epoch := by
  unfold hear
  split
  · simp [h₁]
  · split
    · simp [h₂]
    · simp [hearFailed]

@[simp] theorem hear_progress_leaveClosingDue (p : Packet) (own : Option QueueEntry → State → State) (other : State → State)
    (h₁ : ∀ e s, (own e s).progress.leaveClosingDue = s.progress.leaveClosingDue) (h₂ : ∀ s, (other s).progress.leaveClosingDue = s.progress.leaveClosingDue) (s : State) :
    (hear p own other s).progress.leaveClosingDue = s.progress.leaveClosingDue := by
  unfold hear
  split
  · simp [h₁]
  · split
    · simp [h₂]
    · simp [hearFailed]

@[simp] theorem hear_progress_leavingDue (p : Packet) (own : Option QueueEntry → State → State) (other : State → State)
    (h₁ : ∀ e s, (own e s).progress.leavingDue = s.progress.leavingDue) (h₂ : ∀ s, (other s).progress.leavingDue = s.progress.leavingDue) (s : State) :
    (hear p own other s).progress.leavingDue = s.progress.leavingDue := by
  unfold hear
  split
  · simp [h₁]
  · split
    · simp [h₂]
    · simp [hearFailed]

@[simp] theorem hear_progress_ownLeaveTaken (p : Packet) (own : Option QueueEntry → State → State) (other : State → State)
    (h₁ : ∀ e s, (own e s).progress.ownLeaveTaken = s.progress.ownLeaveTaken) (h₂ : ∀ s, (other s).progress.ownLeaveTaken = s.progress.ownLeaveTaken) (s : State) :
    (hear p own other s).progress.ownLeaveTaken = s.progress.ownLeaveTaken := by
  unfold hear
  split
  · simp [h₁]
  · split
    · simp [h₂]
    · simp [hearFailed]

@[simp] theorem hear_tb_lock (p : Packet) (own : Option QueueEntry → State → State) (other : State → State)
    (h₁ : ∀ e s, (own e s).tb.lock = s.tb.lock) (h₂ : ∀ s, (other s).tb.lock = s.tb.lock) (s : State) :
    (hear p own other s).tb.lock = s.tb.lock := by
  unfold hear
  split
  · simp [h₁]
  · split
    · simp [h₂]
    · simp [hearFailed]

@[simp] theorem hear_tb_listen (p : Packet) (own : Option QueueEntry → State → State) (other : State → State)
    (h₁ : ∀ e s, (own e s).tb.listen = s.tb.listen) (h₂ : ∀ s, (other s).tb.listen = s.tb.listen) (s : State) :
    (hear p own other s).tb.listen = s.tb.listen := by
  unfold hear
  split
  · simp [h₁]
  · split
    · simp [h₂]
    · simp [hearFailed]

@[simp] theorem hear_tb_missed (p : Packet) (own : Option QueueEntry → State → State) (other : State → State)
    (h₁ : ∀ e s, (own e s).tb.missed = s.tb.missed) (h₂ : ∀ s, (other s).tb.missed = s.tb.missed) (s : State) :
    (hear p own other s).tb.missed = s.tb.missed := by
  unfold hear
  split
  · simp [h₁]
  · split
    · simp [h₂]
    · simp [hearFailed]

@[simp] theorem hear_tb_expected (p : Packet) (own : Option QueueEntry → State → State) (other : State → State)
    (h₁ : ∀ e s, (own e s).tb.expected = s.tb.expected) (h₂ : ∀ s, (other s).tb.expected = s.tb.expected) (s : State) :
    (hear p own other s).tb.expected = s.tb.expected := by
  unfold hear
  split
  · simp [h₁]
  · split
    · simp [h₂]
    · simp [hearFailed]

@[simp] theorem hear_tb_markDue (p : Packet) (own : Option QueueEntry → State → State) (other : State → State)
    (h₁ : ∀ e s, (own e s).tb.markDue = s.tb.markDue) (h₂ : ∀ s, (other s).tb.markDue = s.tb.markDue) (s : State) :
    (hear p own other s).tb.markDue = s.tb.markDue := by
  unfold hear
  split
  · simp [h₁]
  · split
    · simp [h₂]
    · simp [hearFailed]

@[simp] theorem hear_tb_orphan (p : Packet) (own : Option QueueEntry → State → State) (other : State → State)
    (h₁ : ∀ e s, (own e s).tb.orphan = s.tb.orphan) (h₂ : ∀ s, (other s).tb.orphan = s.tb.orphan) (s : State) :
    (hear p own other s).tb.orphan = s.tb.orphan := by
  unfold hear
  split
  · simp [h₁]
  · split
    · simp [h₂]
    · simp [hearFailed]

@[simp] theorem hear_trig_pendingTrigger (p : Packet) (own : Option QueueEntry → State → State) (other : State → State)
    (h₁ : ∀ e s, (own e s).trig.pendingTrigger = s.trig.pendingTrigger) (h₂ : ∀ s, (other s).trig.pendingTrigger = s.trig.pendingTrigger) (s : State) :
    (hear p own other s).trig.pendingTrigger = s.trig.pendingTrigger := by
  unfold hear
  split
  · simp [h₁]
  · split
    · simp [h₂]
    · simp [hearFailed]

@[simp] theorem hear_trig_settings (p : Packet) (own : Option QueueEntry → State → State) (other : State → State)
    (h₁ : ∀ e s, (own e s).trig.settings = s.trig.settings) (h₂ : ∀ s, (other s).trig.settings = s.trig.settings) (s : State) :
    (hear p own other s).trig.settings = s.trig.settings := by
  unfold hear
  split
  · simp [h₁]
  · split
    · simp [h₂]
    · simp [hearFailed]

@[simp] theorem hear_trig_filtered (p : Packet) (own : Option QueueEntry → State → State) (other : State → State)
    (h₁ : ∀ e s, (own e s).trig.filtered = s.trig.filtered) (h₂ : ∀ s, (other s).trig.filtered = s.trig.filtered) (s : State) :
    (hear p own other s).trig.filtered = s.trig.filtered := by
  unfold hear
  split
  · simp [h₁]
  · split
    · simp [h₂]
    · simp [hearFailed]

@[simp] theorem frameRequest_powered (kind channel offset : Byte) (decide : State → Decision)
    (h : ∀ s, (decide s).2.2.powered = s.powered) (s : State) : (frameRequest kind channel offset decide s).powered = s.powered := by
  unfold frameRequest
  split <;> simp [h]

@[simp] theorem frameRequest_pins (kind channel offset : Byte) (decide : State → Decision)
    (h : ∀ s, (decide s).2.2.pins = s.pins) (s : State) : (frameRequest kind channel offset decide s).pins = s.pins := by
  unfold frameRequest
  split <;> simp [h]

@[simp] theorem frameRequest_clock (kind channel offset : Byte) (decide : State → Decision)
    (h : ∀ s, (decide s).2.2.clock = s.clock) (s : State) : (frameRequest kind channel offset decide s).clock = s.clock := by
  unfold frameRequest
  split <;> simp [h]

@[simp] theorem frameRequest_trunk (kind channel offset : Byte) (decide : State → Decision)
    (h : ∀ s, (decide s).2.2.trunk = s.trunk) (s : State) : (frameRequest kind channel offset decide s).trunk = s.trunk := by
  unfold frameRequest
  split <;> simp [h]

@[simp] theorem frameRequest_framer (kind channel offset : Byte) (decide : State → Decision)
    (h : ∀ s, (decide s).2.2.framer = s.framer) (s : State) : (frameRequest kind channel offset decide s).framer = s.framer := by
  unfold frameRequest
  split <;> simp [h]

@[simp] theorem frameRequest_tb (kind channel offset : Byte) (decide : State → Decision)
    (h : ∀ s, (decide s).2.2.tb = s.tb) (s : State) : (frameRequest kind channel offset decide s).tb = s.tb := by
  unfold frameRequest
  split <;> simp [h]

@[simp] theorem frameRequest_station (kind channel offset : Byte) (decide : State → Decision)
    (h : ∀ s, (decide s).2.2.station = s.station) (s : State) : (frameRequest kind channel offset decide s).station = s.station := by
  unfold frameRequest
  split <;> simp [h]

@[simp] theorem frameRequest_progress (kind channel offset : Byte) (decide : State → Decision)
    (h : ∀ s, (decide s).2.2.progress = s.progress) (s : State) : (frameRequest kind channel offset decide s).progress = s.progress := by
  unfold frameRequest
  split <;> simp [h]

@[simp] theorem frameRequest_roster (kind channel offset : Byte) (decide : State → Decision)
    (h : ∀ s, (decide s).2.2.roster = s.roster) (s : State) : (frameRequest kind channel offset decide s).roster = s.roster := by
  unfold frameRequest
  split <;> simp [h]

@[simp] theorem frameRequest_rollCall (kind channel offset : Byte) (decide : State → Decision)
    (h : ∀ s, (decide s).2.2.rollCall = s.rollCall) (s : State) : (frameRequest kind channel offset decide s).rollCall = s.rollCall := by
  unfold frameRequest
  split <;> simp [h]

@[simp] theorem frameRequest_map (kind channel offset : Byte) (decide : State → Decision)
    (h : ∀ s, (decide s).2.2.map = s.map) (s : State) : (frameRequest kind channel offset decide s).map = s.map := by
  unfold frameRequest
  split <;> simp [h]

@[simp] theorem frameRequest_out (kind channel offset : Byte) (decide : State → Decision)
    (h : ∀ s, (decide s).2.2.out = s.out) (s : State) : (frameRequest kind channel offset decide s).out = s.out := by
  unfold frameRequest
  split <;> simp [h]

@[simp] theorem frameRequest_inb (kind channel offset : Byte) (decide : State → Decision)
    (h : ∀ s, (decide s).2.2.inb = s.inb) (s : State) : (frameRequest kind channel offset decide s).inb = s.inb := by
  unfold frameRequest
  split <;> simp [h]

@[simp] theorem frameRequest_mem (kind channel offset : Byte) (decide : State → Decision)
    (h : ∀ s, (decide s).2.2.mem = s.mem) (s : State) : (frameRequest kind channel offset decide s).mem = s.mem := by
  unfold frameRequest
  split <;> simp [h]

@[simp] theorem frameRequest_trig (kind channel offset : Byte) (decide : State → Decision)
    (h : ∀ s, (decide s).2.2.trig = s.trig) (s : State) : (frameRequest kind channel offset decide s).trig = s.trig := by
  unfold frameRequest
  split <;> simp [h]

@[simp] theorem frameRequest_guard (kind channel offset : Byte) (decide : State → Decision)
    (h : ∀ s, (decide s).2.2.guard = s.guard) (s : State) : (frameRequest kind channel offset decide s).guard = s.guard := by
  unfold frameRequest
  split <;> simp [h]

@[simp] theorem frameRequest_service (kind channel offset : Byte) (decide : State → Decision)
    (h : ∀ s, (decide s).2.2.service = s.service) (s : State) : (frameRequest kind channel offset decide s).service = s.service := by
  unfold frameRequest
  split <;> simp [h]

@[simp] theorem frameRequest_setup (kind channel offset : Byte) (decide : State → Decision)
    (h : ∀ s, (decide s).2.2.setup = s.setup) (s : State) : (frameRequest kind channel offset decide s).setup = s.setup := by
  unfold frameRequest
  split <;> simp [h]

@[simp] theorem frameRequest_settings (kind channel offset : Byte) (decide : State → Decision)
    (h : ∀ s, (decide s).2.2.settings = s.settings) (s : State) : (frameRequest kind channel offset decide s).settings = s.settings := by
  unfold frameRequest
  split <;> simp [h]

@[simp] theorem frameRequest_snapshots (kind channel offset : Byte) (decide : State → Decision)
    (h : ∀ s, (decide s).2.2.snapshots = s.snapshots) (s : State) : (frameRequest kind channel offset decide s).snapshots = s.snapshots := by
  unfold frameRequest
  split <;> simp [h]

@[simp] theorem frameRequest_flags (kind channel offset : Byte) (decide : State → Decision)
    (h : ∀ s, (decide s).2.2.flags = s.flags) (s : State) : (frameRequest kind channel offset decide s).flags = s.flags := by
  unfold frameRequest
  split <;> simp [h]

@[simp] theorem frameRequest_pending (kind channel offset : Byte) (decide : State → Decision)
    (h : ∀ s, (decide s).2.2.pending = s.pending) (s : State) : (frameRequest kind channel offset decide s).pending = s.pending := by
  unfold frameRequest
  split <;> simp [h]

@[simp] theorem frameRequest_freeDraws (kind channel offset : Byte) (decide : State → Decision)
    (h : ∀ s, (decide s).2.2.freeDraws = s.freeDraws) (s : State) : (frameRequest kind channel offset decide s).freeDraws = s.freeDraws := by
  unfold frameRequest
  split <;> simp [h]

@[simp] theorem frameRequest_trunk_switch (kind channel offset : Byte) (decide : State → Decision)
    (h : ∀ s, (decide s).2.2.trunk.switch = s.trunk.switch) (s : State) : (frameRequest kind channel offset decide s).trunk.switch = s.trunk.switch := by
  unfold frameRequest
  split <;> simp [h]

@[simp] theorem frameRequest_trunk_sending (kind channel offset : Byte) (decide : State → Decision)
    (h : ∀ s, (decide s).2.2.trunk.sending = s.trunk.sending) (s : State) : (frameRequest kind channel offset decide s).trunk.sending = s.trunk.sending := by
  unfold frameRequest
  split <;> simp [h]

@[simp] theorem frameRequest_trunk_queue (kind channel offset : Byte) (decide : State → Decision)
    (h : ∀ s, (decide s).2.2.trunk.queue = s.trunk.queue) (s : State) : (frameRequest kind channel offset decide s).trunk.queue = s.trunk.queue := by
  unfold frameRequest
  split <;> simp [h]

@[simp] theorem frameRequest_trunk_waiting (kind channel offset : Byte) (decide : State → Decision)
    (h : ∀ s, (decide s).2.2.trunk.waiting = s.trunk.waiting) (s : State) : (frameRequest kind channel offset decide s).trunk.waiting = s.trunk.waiting := by
  unfold frameRequest
  split <;> simp [h]

@[simp] theorem frameRequest_tb_role (kind channel offset : Byte) (decide : State → Decision)
    (h : ∀ s, (decide s).2.2.tb.role = s.tb.role) (s : State) : (frameRequest kind channel offset decide s).tb.role = s.tb.role := by
  unfold frameRequest
  split <;> simp [h]

@[simp] theorem frameRequest_tb_designated (kind channel offset : Byte) (decide : State → Decision)
    (h : ∀ s, (decide s).2.2.tb.designated = s.tb.designated) (s : State) : (frameRequest kind channel offset decide s).tb.designated = s.tb.designated := by
  unfold frameRequest
  split <;> simp [h]

@[simp] theorem frameRequest_tb_election (kind channel offset : Byte) (decide : State → Decision)
    (h : ∀ s, (decide s).2.2.tb.election = s.tb.election) (s : State) : (frameRequest kind channel offset decide s).tb.election = s.tb.election := by
  unfold frameRequest
  split <;> simp [h]

@[simp] theorem frameRequest_tb_period (kind channel offset : Byte) (decide : State → Decision)
    (h : ∀ s, (decide s).2.2.tb.period = s.tb.period) (s : State) : (frameRequest kind channel offset decide s).tb.period = s.tb.period := by
  unfold frameRequest
  split <;> simp [h]

@[simp] theorem frameRequest_station_state (kind channel offset : Byte) (decide : State → Decision)
    (h : ∀ s, (decide s).2.2.station.state = s.station.state) (s : State) : (frameRequest kind channel offset decide s).station.state = s.station.state := by
  unfold frameRequest
  split <;> simp [h]

@[simp] theorem frameRequest_framer_framed (kind channel offset : Byte) (decide : State → Decision)
    (h : ∀ s, (decide s).2.2.framer.framed = s.framer.framed) (s : State) : (frameRequest kind channel offset decide s).framer.framed = s.framer.framed := by
  unfold frameRequest
  split <;> simp [h]

@[simp] theorem frameRequest_framer_round (kind channel offset : Byte) (decide : State → Decision)
    (h : ∀ s, (decide s).2.2.framer.round = s.framer.round) (s : State) : (frameRequest kind channel offset decide s).framer.round = s.framer.round := by
  unfold frameRequest
  split <;> simp [h]

@[simp] theorem frameRequest_framer_opening (kind channel offset : Byte) (decide : State → Decision)
    (h : ∀ s, (decide s).2.2.framer.opening = s.framer.opening) (s : State) : (frameRequest kind channel offset decide s).framer.opening = s.framer.opening := by
  unfold frameRequest
  split <;> simp [h]

@[simp] theorem frameRequest_guard_state (kind channel offset : Byte) (decide : State → Decision)
    (h : ∀ s, (decide s).2.2.guard.state = s.guard.state) (s : State) : (frameRequest kind channel offset decide s).guard.state = s.guard.state := by
  unfold frameRequest
  split <;> simp [h]

@[simp] theorem frameRequest_guard_interval (kind channel offset : Byte) (decide : State → Decision)
    (h : ∀ s, (decide s).2.2.guard.interval = s.guard.interval) (s : State) : (frameRequest kind channel offset decide s).guard.interval = s.guard.interval := by
  unfold frameRequest
  split <;> simp [h]

@[simp] theorem frameRequest_guard_thresholds (kind channel offset : Byte) (decide : State → Decision)
    (h : ∀ s, (decide s).2.2.guard.thresholds = s.guard.thresholds) (s : State) : (frameRequest kind channel offset decide s).guard.thresholds = s.guard.thresholds := by
  unfold frameRequest
  split <;> simp [h]

@[simp] theorem frameRequest_map_resync (kind channel offset : Byte) (decide : State → Decision)
    (h : ∀ s, (decide s).2.2.map.resync = s.map.resync) (s : State) : (frameRequest kind channel offset decide s).map.resync = s.map.resync := by
  unfold frameRequest
  split <;> simp [h]

@[simp] theorem frameRequest_map_entries (kind channel offset : Byte) (decide : State → Decision)
    (h : ∀ s, (decide s).2.2.map.entries = s.map.entries) (s : State) : (frameRequest kind channel offset decide s).map.entries = s.map.entries := by
  unfold frameRequest
  split <;> simp [h]

@[simp] theorem frameRequest_map_epoch (kind channel offset : Byte) (decide : State → Decision)
    (h : ∀ s, (decide s).2.2.map.epoch = s.map.epoch) (s : State) : (frameRequest kind channel offset decide s).map.epoch = s.map.epoch := by
  unfold frameRequest
  split <;> simp [h]

@[simp] theorem frameRequest_progress_leaveClosingDue (kind channel offset : Byte) (decide : State → Decision)
    (h : ∀ s, (decide s).2.2.progress.leaveClosingDue = s.progress.leaveClosingDue) (s : State) : (frameRequest kind channel offset decide s).progress.leaveClosingDue = s.progress.leaveClosingDue := by
  unfold frameRequest
  split <;> simp [h]

@[simp] theorem frameRequest_progress_leavingDue (kind channel offset : Byte) (decide : State → Decision)
    (h : ∀ s, (decide s).2.2.progress.leavingDue = s.progress.leavingDue) (s : State) : (frameRequest kind channel offset decide s).progress.leavingDue = s.progress.leavingDue := by
  unfold frameRequest
  split <;> simp [h]

@[simp] theorem frameRequest_progress_ownLeaveTaken (kind channel offset : Byte) (decide : State → Decision)
    (h : ∀ s, (decide s).2.2.progress.ownLeaveTaken = s.progress.ownLeaveTaken) (s : State) : (frameRequest kind channel offset decide s).progress.ownLeaveTaken = s.progress.ownLeaveTaken := by
  unfold frameRequest
  split <;> simp [h]

@[simp] theorem frameRequest_tb_lock (kind channel offset : Byte) (decide : State → Decision)
    (h : ∀ s, (decide s).2.2.tb.lock = s.tb.lock) (s : State) : (frameRequest kind channel offset decide s).tb.lock = s.tb.lock := by
  unfold frameRequest
  split <;> simp [h]

@[simp] theorem frameRequest_tb_listen (kind channel offset : Byte) (decide : State → Decision)
    (h : ∀ s, (decide s).2.2.tb.listen = s.tb.listen) (s : State) : (frameRequest kind channel offset decide s).tb.listen = s.tb.listen := by
  unfold frameRequest
  split <;> simp [h]

@[simp] theorem frameRequest_tb_missed (kind channel offset : Byte) (decide : State → Decision)
    (h : ∀ s, (decide s).2.2.tb.missed = s.tb.missed) (s : State) : (frameRequest kind channel offset decide s).tb.missed = s.tb.missed := by
  unfold frameRequest
  split <;> simp [h]

@[simp] theorem frameRequest_tb_expected (kind channel offset : Byte) (decide : State → Decision)
    (h : ∀ s, (decide s).2.2.tb.expected = s.tb.expected) (s : State) : (frameRequest kind channel offset decide s).tb.expected = s.tb.expected := by
  unfold frameRequest
  split <;> simp [h]

@[simp] theorem frameRequest_tb_markDue (kind channel offset : Byte) (decide : State → Decision)
    (h : ∀ s, (decide s).2.2.tb.markDue = s.tb.markDue) (s : State) : (frameRequest kind channel offset decide s).tb.markDue = s.tb.markDue := by
  unfold frameRequest
  split <;> simp [h]

@[simp] theorem frameRequest_tb_orphan (kind channel offset : Byte) (decide : State → Decision)
    (h : ∀ s, (decide s).2.2.tb.orphan = s.tb.orphan) (s : State) : (frameRequest kind channel offset decide s).tb.orphan = s.tb.orphan := by
  unfold frameRequest
  split <;> simp [h]

@[simp] theorem frameRequest_trig_pendingTrigger (kind channel offset : Byte) (decide : State → Decision)
    (h : ∀ s, (decide s).2.2.trig.pendingTrigger = s.trig.pendingTrigger) (s : State) : (frameRequest kind channel offset decide s).trig.pendingTrigger = s.trig.pendingTrigger := by
  unfold frameRequest
  split <;> simp [h]

@[simp] theorem frameRequest_trig_settings (kind channel offset : Byte) (decide : State → Decision)
    (h : ∀ s, (decide s).2.2.trig.settings = s.trig.settings) (s : State) : (frameRequest kind channel offset decide s).trig.settings = s.trig.settings := by
  unfold frameRequest
  split <;> simp [h]

@[simp] theorem frameRequest_trig_filtered (kind channel offset : Byte) (decide : State → Decision)
    (h : ∀ s, (decide s).2.2.trig.filtered = s.trig.filtered) (s : State) : (frameRequest kind channel offset decide s).trig.filtered = s.trig.filtered := by
  unfold frameRequest
  split <;> simp [h]

@[simp] theorem serviceRequest_powered (kind : Byte) (decide : State → ServiceDecision)
    (h : ∀ s, (decide s).2.2.powered = s.powered) (s : State) : (serviceRequest kind decide s).powered = s.powered := by
  unfold serviceRequest
  split <;> simp [h]

@[simp] theorem serviceRequest_pins (kind : Byte) (decide : State → ServiceDecision)
    (h : ∀ s, (decide s).2.2.pins = s.pins) (s : State) : (serviceRequest kind decide s).pins = s.pins := by
  unfold serviceRequest
  split <;> simp [h]

@[simp] theorem serviceRequest_clock (kind : Byte) (decide : State → ServiceDecision)
    (h : ∀ s, (decide s).2.2.clock = s.clock) (s : State) : (serviceRequest kind decide s).clock = s.clock := by
  unfold serviceRequest
  split <;> simp [h]

@[simp] theorem serviceRequest_trunk (kind : Byte) (decide : State → ServiceDecision)
    (h : ∀ s, (decide s).2.2.trunk = s.trunk) (s : State) : (serviceRequest kind decide s).trunk = s.trunk := by
  unfold serviceRequest
  split <;> simp [h]

@[simp] theorem serviceRequest_framer (kind : Byte) (decide : State → ServiceDecision)
    (h : ∀ s, (decide s).2.2.framer = s.framer) (s : State) : (serviceRequest kind decide s).framer = s.framer := by
  unfold serviceRequest
  split <;> simp [h]

@[simp] theorem serviceRequest_tb (kind : Byte) (decide : State → ServiceDecision)
    (h : ∀ s, (decide s).2.2.tb = s.tb) (s : State) : (serviceRequest kind decide s).tb = s.tb := by
  unfold serviceRequest
  split <;> simp [h]

@[simp] theorem serviceRequest_station (kind : Byte) (decide : State → ServiceDecision)
    (h : ∀ s, (decide s).2.2.station = s.station) (s : State) : (serviceRequest kind decide s).station = s.station := by
  unfold serviceRequest
  split <;> simp [h]

@[simp] theorem serviceRequest_progress (kind : Byte) (decide : State → ServiceDecision)
    (h : ∀ s, (decide s).2.2.progress = s.progress) (s : State) : (serviceRequest kind decide s).progress = s.progress := by
  unfold serviceRequest
  split <;> simp [h]

@[simp] theorem serviceRequest_roster (kind : Byte) (decide : State → ServiceDecision)
    (h : ∀ s, (decide s).2.2.roster = s.roster) (s : State) : (serviceRequest kind decide s).roster = s.roster := by
  unfold serviceRequest
  split <;> simp [h]

@[simp] theorem serviceRequest_rollCall (kind : Byte) (decide : State → ServiceDecision)
    (h : ∀ s, (decide s).2.2.rollCall = s.rollCall) (s : State) : (serviceRequest kind decide s).rollCall = s.rollCall := by
  unfold serviceRequest
  split <;> simp [h]

@[simp] theorem serviceRequest_map (kind : Byte) (decide : State → ServiceDecision)
    (h : ∀ s, (decide s).2.2.map = s.map) (s : State) : (serviceRequest kind decide s).map = s.map := by
  unfold serviceRequest
  split <;> simp [h]

@[simp] theorem serviceRequest_out (kind : Byte) (decide : State → ServiceDecision)
    (h : ∀ s, (decide s).2.2.out = s.out) (s : State) : (serviceRequest kind decide s).out = s.out := by
  unfold serviceRequest
  split <;> simp [h]

@[simp] theorem serviceRequest_inb (kind : Byte) (decide : State → ServiceDecision)
    (h : ∀ s, (decide s).2.2.inb = s.inb) (s : State) : (serviceRequest kind decide s).inb = s.inb := by
  unfold serviceRequest
  split <;> simp [h]

@[simp] theorem serviceRequest_mem (kind : Byte) (decide : State → ServiceDecision)
    (h : ∀ s, (decide s).2.2.mem = s.mem) (s : State) : (serviceRequest kind decide s).mem = s.mem := by
  unfold serviceRequest
  split <;> simp [h]

@[simp] theorem serviceRequest_trig (kind : Byte) (decide : State → ServiceDecision)
    (h : ∀ s, (decide s).2.2.trig = s.trig) (s : State) : (serviceRequest kind decide s).trig = s.trig := by
  unfold serviceRequest
  split <;> simp [h]

@[simp] theorem serviceRequest_guard (kind : Byte) (decide : State → ServiceDecision)
    (h : ∀ s, (decide s).2.2.guard = s.guard) (s : State) : (serviceRequest kind decide s).guard = s.guard := by
  unfold serviceRequest
  split <;> simp [h]

@[simp] theorem serviceRequest_frame (kind : Byte) (decide : State → ServiceDecision)
    (h : ∀ s, (decide s).2.2.frame = s.frame) (s : State) : (serviceRequest kind decide s).frame = s.frame := by
  unfold serviceRequest
  split <;> simp [h]

@[simp] theorem serviceRequest_setup (kind : Byte) (decide : State → ServiceDecision)
    (h : ∀ s, (decide s).2.2.setup = s.setup) (s : State) : (serviceRequest kind decide s).setup = s.setup := by
  unfold serviceRequest
  split <;> simp [h]

@[simp] theorem serviceRequest_settings (kind : Byte) (decide : State → ServiceDecision)
    (h : ∀ s, (decide s).2.2.settings = s.settings) (s : State) : (serviceRequest kind decide s).settings = s.settings := by
  unfold serviceRequest
  split <;> simp [h]

@[simp] theorem serviceRequest_snapshots (kind : Byte) (decide : State → ServiceDecision)
    (h : ∀ s, (decide s).2.2.snapshots = s.snapshots) (s : State) : (serviceRequest kind decide s).snapshots = s.snapshots := by
  unfold serviceRequest
  split <;> simp [h]

@[simp] theorem serviceRequest_flags (kind : Byte) (decide : State → ServiceDecision)
    (h : ∀ s, (decide s).2.2.flags = s.flags) (s : State) : (serviceRequest kind decide s).flags = s.flags := by
  unfold serviceRequest
  split <;> simp [h]

@[simp] theorem serviceRequest_pending (kind : Byte) (decide : State → ServiceDecision)
    (h : ∀ s, (decide s).2.2.pending = s.pending) (s : State) : (serviceRequest kind decide s).pending = s.pending := by
  unfold serviceRequest
  split <;> simp [h]

@[simp] theorem serviceRequest_freeDraws (kind : Byte) (decide : State → ServiceDecision)
    (h : ∀ s, (decide s).2.2.freeDraws = s.freeDraws) (s : State) : (serviceRequest kind decide s).freeDraws = s.freeDraws := by
  unfold serviceRequest
  split <;> simp [h]

@[simp] theorem serviceRequest_trunk_switch (kind : Byte) (decide : State → ServiceDecision)
    (h : ∀ s, (decide s).2.2.trunk.switch = s.trunk.switch) (s : State) : (serviceRequest kind decide s).trunk.switch = s.trunk.switch := by
  unfold serviceRequest
  split <;> simp [h]

@[simp] theorem serviceRequest_trunk_sending (kind : Byte) (decide : State → ServiceDecision)
    (h : ∀ s, (decide s).2.2.trunk.sending = s.trunk.sending) (s : State) : (serviceRequest kind decide s).trunk.sending = s.trunk.sending := by
  unfold serviceRequest
  split <;> simp [h]

@[simp] theorem serviceRequest_trunk_queue (kind : Byte) (decide : State → ServiceDecision)
    (h : ∀ s, (decide s).2.2.trunk.queue = s.trunk.queue) (s : State) : (serviceRequest kind decide s).trunk.queue = s.trunk.queue := by
  unfold serviceRequest
  split <;> simp [h]

@[simp] theorem serviceRequest_trunk_waiting (kind : Byte) (decide : State → ServiceDecision)
    (h : ∀ s, (decide s).2.2.trunk.waiting = s.trunk.waiting) (s : State) : (serviceRequest kind decide s).trunk.waiting = s.trunk.waiting := by
  unfold serviceRequest
  split <;> simp [h]

@[simp] theorem serviceRequest_tb_role (kind : Byte) (decide : State → ServiceDecision)
    (h : ∀ s, (decide s).2.2.tb.role = s.tb.role) (s : State) : (serviceRequest kind decide s).tb.role = s.tb.role := by
  unfold serviceRequest
  split <;> simp [h]

@[simp] theorem serviceRequest_tb_designated (kind : Byte) (decide : State → ServiceDecision)
    (h : ∀ s, (decide s).2.2.tb.designated = s.tb.designated) (s : State) : (serviceRequest kind decide s).tb.designated = s.tb.designated := by
  unfold serviceRequest
  split <;> simp [h]

@[simp] theorem serviceRequest_tb_election (kind : Byte) (decide : State → ServiceDecision)
    (h : ∀ s, (decide s).2.2.tb.election = s.tb.election) (s : State) : (serviceRequest kind decide s).tb.election = s.tb.election := by
  unfold serviceRequest
  split <;> simp [h]

@[simp] theorem serviceRequest_tb_period (kind : Byte) (decide : State → ServiceDecision)
    (h : ∀ s, (decide s).2.2.tb.period = s.tb.period) (s : State) : (serviceRequest kind decide s).tb.period = s.tb.period := by
  unfold serviceRequest
  split <;> simp [h]

@[simp] theorem serviceRequest_station_state (kind : Byte) (decide : State → ServiceDecision)
    (h : ∀ s, (decide s).2.2.station.state = s.station.state) (s : State) : (serviceRequest kind decide s).station.state = s.station.state := by
  unfold serviceRequest
  split <;> simp [h]

@[simp] theorem serviceRequest_framer_framed (kind : Byte) (decide : State → ServiceDecision)
    (h : ∀ s, (decide s).2.2.framer.framed = s.framer.framed) (s : State) : (serviceRequest kind decide s).framer.framed = s.framer.framed := by
  unfold serviceRequest
  split <;> simp [h]

@[simp] theorem serviceRequest_framer_round (kind : Byte) (decide : State → ServiceDecision)
    (h : ∀ s, (decide s).2.2.framer.round = s.framer.round) (s : State) : (serviceRequest kind decide s).framer.round = s.framer.round := by
  unfold serviceRequest
  split <;> simp [h]

@[simp] theorem serviceRequest_framer_opening (kind : Byte) (decide : State → ServiceDecision)
    (h : ∀ s, (decide s).2.2.framer.opening = s.framer.opening) (s : State) : (serviceRequest kind decide s).framer.opening = s.framer.opening := by
  unfold serviceRequest
  split <;> simp [h]

@[simp] theorem serviceRequest_guard_state (kind : Byte) (decide : State → ServiceDecision)
    (h : ∀ s, (decide s).2.2.guard.state = s.guard.state) (s : State) : (serviceRequest kind decide s).guard.state = s.guard.state := by
  unfold serviceRequest
  split <;> simp [h]

@[simp] theorem serviceRequest_guard_interval (kind : Byte) (decide : State → ServiceDecision)
    (h : ∀ s, (decide s).2.2.guard.interval = s.guard.interval) (s : State) : (serviceRequest kind decide s).guard.interval = s.guard.interval := by
  unfold serviceRequest
  split <;> simp [h]

@[simp] theorem serviceRequest_guard_thresholds (kind : Byte) (decide : State → ServiceDecision)
    (h : ∀ s, (decide s).2.2.guard.thresholds = s.guard.thresholds) (s : State) : (serviceRequest kind decide s).guard.thresholds = s.guard.thresholds := by
  unfold serviceRequest
  split <;> simp [h]

@[simp] theorem serviceRequest_map_resync (kind : Byte) (decide : State → ServiceDecision)
    (h : ∀ s, (decide s).2.2.map.resync = s.map.resync) (s : State) : (serviceRequest kind decide s).map.resync = s.map.resync := by
  unfold serviceRequest
  split <;> simp [h]

@[simp] theorem serviceRequest_map_entries (kind : Byte) (decide : State → ServiceDecision)
    (h : ∀ s, (decide s).2.2.map.entries = s.map.entries) (s : State) : (serviceRequest kind decide s).map.entries = s.map.entries := by
  unfold serviceRequest
  split <;> simp [h]

@[simp] theorem serviceRequest_map_epoch (kind : Byte) (decide : State → ServiceDecision)
    (h : ∀ s, (decide s).2.2.map.epoch = s.map.epoch) (s : State) : (serviceRequest kind decide s).map.epoch = s.map.epoch := by
  unfold serviceRequest
  split <;> simp [h]

@[simp] theorem serviceRequest_progress_leaveClosingDue (kind : Byte) (decide : State → ServiceDecision)
    (h : ∀ s, (decide s).2.2.progress.leaveClosingDue = s.progress.leaveClosingDue) (s : State) : (serviceRequest kind decide s).progress.leaveClosingDue = s.progress.leaveClosingDue := by
  unfold serviceRequest
  split <;> simp [h]

@[simp] theorem serviceRequest_progress_leavingDue (kind : Byte) (decide : State → ServiceDecision)
    (h : ∀ s, (decide s).2.2.progress.leavingDue = s.progress.leavingDue) (s : State) : (serviceRequest kind decide s).progress.leavingDue = s.progress.leavingDue := by
  unfold serviceRequest
  split <;> simp [h]

@[simp] theorem serviceRequest_progress_ownLeaveTaken (kind : Byte) (decide : State → ServiceDecision)
    (h : ∀ s, (decide s).2.2.progress.ownLeaveTaken = s.progress.ownLeaveTaken) (s : State) : (serviceRequest kind decide s).progress.ownLeaveTaken = s.progress.ownLeaveTaken := by
  unfold serviceRequest
  split <;> simp [h]

@[simp] theorem serviceRequest_tb_lock (kind : Byte) (decide : State → ServiceDecision)
    (h : ∀ s, (decide s).2.2.tb.lock = s.tb.lock) (s : State) : (serviceRequest kind decide s).tb.lock = s.tb.lock := by
  unfold serviceRequest
  split <;> simp [h]

@[simp] theorem serviceRequest_tb_listen (kind : Byte) (decide : State → ServiceDecision)
    (h : ∀ s, (decide s).2.2.tb.listen = s.tb.listen) (s : State) : (serviceRequest kind decide s).tb.listen = s.tb.listen := by
  unfold serviceRequest
  split <;> simp [h]

@[simp] theorem serviceRequest_tb_missed (kind : Byte) (decide : State → ServiceDecision)
    (h : ∀ s, (decide s).2.2.tb.missed = s.tb.missed) (s : State) : (serviceRequest kind decide s).tb.missed = s.tb.missed := by
  unfold serviceRequest
  split <;> simp [h]

@[simp] theorem serviceRequest_tb_expected (kind : Byte) (decide : State → ServiceDecision)
    (h : ∀ s, (decide s).2.2.tb.expected = s.tb.expected) (s : State) : (serviceRequest kind decide s).tb.expected = s.tb.expected := by
  unfold serviceRequest
  split <;> simp [h]

@[simp] theorem serviceRequest_tb_markDue (kind : Byte) (decide : State → ServiceDecision)
    (h : ∀ s, (decide s).2.2.tb.markDue = s.tb.markDue) (s : State) : (serviceRequest kind decide s).tb.markDue = s.tb.markDue := by
  unfold serviceRequest
  split <;> simp [h]

@[simp] theorem serviceRequest_tb_orphan (kind : Byte) (decide : State → ServiceDecision)
    (h : ∀ s, (decide s).2.2.tb.orphan = s.tb.orphan) (s : State) : (serviceRequest kind decide s).tb.orphan = s.tb.orphan := by
  unfold serviceRequest
  split <;> simp [h]

@[simp] theorem serviceRequest_trig_pendingTrigger (kind : Byte) (decide : State → ServiceDecision)
    (h : ∀ s, (decide s).2.2.trig.pendingTrigger = s.trig.pendingTrigger) (s : State) : (serviceRequest kind decide s).trig.pendingTrigger = s.trig.pendingTrigger := by
  unfold serviceRequest
  split <;> simp [h]

@[simp] theorem serviceRequest_trig_settings (kind : Byte) (decide : State → ServiceDecision)
    (h : ∀ s, (decide s).2.2.trig.settings = s.trig.settings) (s : State) : (serviceRequest kind decide s).trig.settings = s.trig.settings := by
  unfold serviceRequest
  split <;> simp [h]

@[simp] theorem serviceRequest_trig_filtered (kind : Byte) (decide : State → ServiceDecision)
    (h : ∀ s, (decide s).2.2.trig.filtered = s.trig.filtered) (s : State) : (serviceRequest kind decide s).trig.filtered = s.trig.filtered := by
  unfold serviceRequest
  split <;> simp [h]

@[simp] theorem refuseRequest_state (c : FrameCode) (s : State) : (refuseRequest c s).2.2 = s := rfl

@[simp] theorem answerRequest_state (c : FrameCode) (s : State) : (answerRequest c s).2.2 = s := rfl

@[simp] theorem refuseService_state (c : ServiceCode) (s : State) : (refuseService c s).2.2 = s := rfl

@[simp] theorem takeCommand_state (s : State) : (takeCommand s).2.2 = settle s := rfl

/-! ### What each decision of a port leaves unchanged -/

@[simp] theorem decidePush_frame (ch : Channel) (w : Word) (s : State) :
    (decidePush ch w s).2.2.powered = s.powered ∧ (decidePush ch w s).2.2.pins = s.pins ∧
    (decidePush ch w s).2.2.clock = s.clock ∧ (decidePush ch w s).2.2.trunk = s.trunk ∧
    (decidePush ch w s).2.2.framer = s.framer ∧ (decidePush ch w s).2.2.tb = s.tb ∧
    (decidePush ch w s).2.2.station = s.station ∧ (decidePush ch w s).2.2.progress = s.progress ∧
    (decidePush ch w s).2.2.roster = s.roster ∧ (decidePush ch w s).2.2.rollCall = s.rollCall ∧
    (decidePush ch w s).2.2.map = s.map ∧ (decidePush ch w s).2.2.inb = s.inb ∧
    (decidePush ch w s).2.2.mem = s.mem ∧ (decidePush ch w s).2.2.trig = s.trig ∧
    (decidePush ch w s).2.2.guard = s.guard ∧ (decidePush ch w s).2.2.frame = s.frame ∧
    (decidePush ch w s).2.2.service = s.service ∧ (decidePush ch w s).2.2.setup = s.setup ∧
    (decidePush ch w s).2.2.settings = s.settings ∧ (decidePush ch w s).2.2.snapshots = s.snapshots ∧
    (decidePush ch w s).2.2.flags = s.flags ∧ (decidePush ch w s).2.2.pending = s.pending ∧
    (decidePush ch w s).2.2.freeDraws = s.freeDraws := by
  unfold decidePush; (try dsimp only); (repeat' split) <;> simp

@[simp] theorem decideOpenOut_frame (ch : Channel) (s : State) :
    (decideOpenOut ch s).2.2.powered = s.powered ∧ (decideOpenOut ch s).2.2.pins = s.pins ∧
    (decideOpenOut ch s).2.2.clock = s.clock ∧ (decideOpenOut ch s).2.2.framer = s.framer ∧
    (decideOpenOut ch s).2.2.tb = s.tb ∧ (decideOpenOut ch s).2.2.station = s.station ∧
    (decideOpenOut ch s).2.2.progress = s.progress ∧ (decideOpenOut ch s).2.2.roster = s.roster ∧
    (decideOpenOut ch s).2.2.rollCall = s.rollCall ∧ (decideOpenOut ch s).2.2.map = s.map ∧
    (decideOpenOut ch s).2.2.inb = s.inb ∧ (decideOpenOut ch s).2.2.mem = s.mem ∧
    (decideOpenOut ch s).2.2.trig = s.trig ∧ (decideOpenOut ch s).2.2.guard = s.guard ∧
    (decideOpenOut ch s).2.2.frame = s.frame ∧ (decideOpenOut ch s).2.2.service = s.service ∧
    (decideOpenOut ch s).2.2.setup = s.setup ∧ (decideOpenOut ch s).2.2.settings = s.settings ∧
    (decideOpenOut ch s).2.2.snapshots = s.snapshots ∧ (decideOpenOut ch s).2.2.flags = s.flags ∧
    (decideOpenOut ch s).2.2.pending = s.pending ∧
    (decideOpenOut ch s).2.2.freeDraws = s.freeDraws ∧ (decideOpenOut ch s).2.2.trunk.switch = s.trunk.switch ∧
    (decideOpenOut ch s).2.2.trunk.sending = s.trunk.sending := by
  unfold decideOpenOut; (try dsimp only); (repeat' split) <;> simp

@[simp] theorem closeConflict_frame (ch : Channel) (s : State) :
    (closeConflict ch s).2.2.powered = s.powered ∧ (closeConflict ch s).2.2.pins = s.pins ∧
    (closeConflict ch s).2.2.clock = s.clock ∧ (closeConflict ch s).2.2.trunk = s.trunk ∧
    (closeConflict ch s).2.2.framer = s.framer ∧ (closeConflict ch s).2.2.tb = s.tb ∧
    (closeConflict ch s).2.2.station = s.station ∧ (closeConflict ch s).2.2.progress = s.progress ∧
    (closeConflict ch s).2.2.roster = s.roster ∧ (closeConflict ch s).2.2.rollCall = s.rollCall ∧
    (closeConflict ch s).2.2.map = s.map ∧ (closeConflict ch s).2.2.inb = s.inb ∧
    (closeConflict ch s).2.2.mem = s.mem ∧ (closeConflict ch s).2.2.trig = s.trig ∧
    (closeConflict ch s).2.2.guard = s.guard ∧ (closeConflict ch s).2.2.frame = s.frame ∧
    (closeConflict ch s).2.2.service = s.service ∧ (closeConflict ch s).2.2.setup = s.setup ∧
    (closeConflict ch s).2.2.settings = s.settings ∧ (closeConflict ch s).2.2.snapshots = s.snapshots ∧
    (closeConflict ch s).2.2.pending = s.pending ∧
    (closeConflict ch s).2.2.freeDraws = s.freeDraws := by
  unfold closeConflict; (try dsimp only); (repeat' split) <;> simp

@[simp] theorem decideCloseNow_frame (ch : Channel) (s : State) :
    (decideCloseNow ch s).2.2.powered = s.powered ∧ (decideCloseNow ch s).2.2.pins = s.pins ∧
    (decideCloseNow ch s).2.2.clock = s.clock ∧ (decideCloseNow ch s).2.2.framer = s.framer ∧
    (decideCloseNow ch s).2.2.tb = s.tb ∧ (decideCloseNow ch s).2.2.station = s.station ∧
    (decideCloseNow ch s).2.2.progress = s.progress ∧ (decideCloseNow ch s).2.2.roster = s.roster ∧
    (decideCloseNow ch s).2.2.rollCall = s.rollCall ∧ (decideCloseNow ch s).2.2.map = s.map ∧
    (decideCloseNow ch s).2.2.inb = s.inb ∧ (decideCloseNow ch s).2.2.mem = s.mem ∧
    (decideCloseNow ch s).2.2.trig = s.trig ∧ (decideCloseNow ch s).2.2.guard = s.guard ∧
    (decideCloseNow ch s).2.2.frame = s.frame ∧ (decideCloseNow ch s).2.2.service = s.service ∧
    (decideCloseNow ch s).2.2.setup = s.setup ∧ (decideCloseNow ch s).2.2.settings = s.settings ∧
    (decideCloseNow ch s).2.2.snapshots = s.snapshots ∧ (decideCloseNow ch s).2.2.pending = s.pending ∧
    (decideCloseNow ch s).2.2.freeDraws = s.freeDraws ∧
    (decideCloseNow ch s).2.2.trunk.switch = s.trunk.switch ∧
    (decideCloseNow ch s).2.2.trunk.sending = s.trunk.sending := by
  unfold decideCloseNow closeUnlessDraining; (try dsimp only); (repeat' split) <;> simp

@[simp] theorem setDrain_frame (ch : Channel) (s : State) :
    (setDrain ch s).2.2.powered = s.powered ∧ (setDrain ch s).2.2.pins = s.pins ∧
    (setDrain ch s).2.2.clock = s.clock ∧ (setDrain ch s).2.2.trunk = s.trunk ∧
    (setDrain ch s).2.2.framer = s.framer ∧ (setDrain ch s).2.2.tb = s.tb ∧
    (setDrain ch s).2.2.station = s.station ∧ (setDrain ch s).2.2.progress = s.progress ∧
    (setDrain ch s).2.2.roster = s.roster ∧ (setDrain ch s).2.2.rollCall = s.rollCall ∧
    (setDrain ch s).2.2.map = s.map ∧ (setDrain ch s).2.2.inb = s.inb ∧ (setDrain ch s).2.2.mem = s.mem ∧
    (setDrain ch s).2.2.trig = s.trig ∧ (setDrain ch s).2.2.guard = s.guard ∧
    (setDrain ch s).2.2.frame = s.frame ∧ (setDrain ch s).2.2.service = s.service ∧
    (setDrain ch s).2.2.setup = s.setup ∧ (setDrain ch s).2.2.settings = s.settings ∧
    (setDrain ch s).2.2.snapshots = s.snapshots ∧ (setDrain ch s).2.2.flags = s.flags ∧
    (setDrain ch s).2.2.pending = s.pending ∧
    (setDrain ch s).2.2.freeDraws = s.freeDraws := by
  unfold setDrain; (try dsimp only); (repeat' split) <;> simp

@[simp] theorem decideCloseDrain_frame (ch : Channel) (s : State) :
    (decideCloseDrain ch s).2.2.powered = s.powered ∧ (decideCloseDrain ch s).2.2.pins = s.pins ∧
    (decideCloseDrain ch s).2.2.clock = s.clock ∧ (decideCloseDrain ch s).2.2.framer = s.framer ∧
    (decideCloseDrain ch s).2.2.tb = s.tb ∧ (decideCloseDrain ch s).2.2.station = s.station ∧
    (decideCloseDrain ch s).2.2.progress = s.progress ∧ (decideCloseDrain ch s).2.2.roster = s.roster ∧
    (decideCloseDrain ch s).2.2.rollCall = s.rollCall ∧ (decideCloseDrain ch s).2.2.map = s.map ∧
    (decideCloseDrain ch s).2.2.inb = s.inb ∧ (decideCloseDrain ch s).2.2.mem = s.mem ∧
    (decideCloseDrain ch s).2.2.trig = s.trig ∧ (decideCloseDrain ch s).2.2.guard = s.guard ∧
    (decideCloseDrain ch s).2.2.frame = s.frame ∧ (decideCloseDrain ch s).2.2.service = s.service ∧
    (decideCloseDrain ch s).2.2.setup = s.setup ∧ (decideCloseDrain ch s).2.2.settings = s.settings ∧
    (decideCloseDrain ch s).2.2.snapshots = s.snapshots ∧ (decideCloseDrain ch s).2.2.pending = s.pending ∧
    (decideCloseDrain ch s).2.2.freeDraws = s.freeDraws ∧
    (decideCloseDrain ch s).2.2.trunk.switch = s.trunk.switch ∧
    (decideCloseDrain ch s).2.2.trunk.sending = s.trunk.sending := by
  unfold decideCloseDrain; (try dsimp only); (repeat' split) <;> simp

@[simp] theorem decideOpenIn_frame (ch : Channel) (s : State) :
    (decideOpenIn ch s).2.2.powered = s.powered ∧ (decideOpenIn ch s).2.2.pins = s.pins ∧
    (decideOpenIn ch s).2.2.clock = s.clock ∧ (decideOpenIn ch s).2.2.trunk = s.trunk ∧
    (decideOpenIn ch s).2.2.framer = s.framer ∧ (decideOpenIn ch s).2.2.tb = s.tb ∧
    (decideOpenIn ch s).2.2.station = s.station ∧ (decideOpenIn ch s).2.2.progress = s.progress ∧
    (decideOpenIn ch s).2.2.roster = s.roster ∧ (decideOpenIn ch s).2.2.rollCall = s.rollCall ∧
    (decideOpenIn ch s).2.2.map = s.map ∧ (decideOpenIn ch s).2.2.out = s.out ∧
    (decideOpenIn ch s).2.2.mem = s.mem ∧ (decideOpenIn ch s).2.2.trig = s.trig ∧
    (decideOpenIn ch s).2.2.guard = s.guard ∧ (decideOpenIn ch s).2.2.frame = s.frame ∧
    (decideOpenIn ch s).2.2.service = s.service ∧ (decideOpenIn ch s).2.2.setup = s.setup ∧
    (decideOpenIn ch s).2.2.settings = s.settings ∧ (decideOpenIn ch s).2.2.snapshots = s.snapshots ∧
    (decideOpenIn ch s).2.2.flags = s.flags ∧ (decideOpenIn ch s).2.2.pending = s.pending ∧
    (decideOpenIn ch s).2.2.freeDraws = s.freeDraws := by
  unfold decideOpenIn; (try dsimp only); (repeat' split) <;> simp

@[simp] theorem decideCloseIn_frame (ch : Channel) (s : State) :
    (decideCloseIn ch s).2.2.powered = s.powered ∧ (decideCloseIn ch s).2.2.pins = s.pins ∧
    (decideCloseIn ch s).2.2.clock = s.clock ∧ (decideCloseIn ch s).2.2.trunk = s.trunk ∧
    (decideCloseIn ch s).2.2.framer = s.framer ∧ (decideCloseIn ch s).2.2.tb = s.tb ∧
    (decideCloseIn ch s).2.2.station = s.station ∧ (decideCloseIn ch s).2.2.progress = s.progress ∧
    (decideCloseIn ch s).2.2.roster = s.roster ∧ (decideCloseIn ch s).2.2.rollCall = s.rollCall ∧
    (decideCloseIn ch s).2.2.map = s.map ∧ (decideCloseIn ch s).2.2.out = s.out ∧
    (decideCloseIn ch s).2.2.mem = s.mem ∧ (decideCloseIn ch s).2.2.trig = s.trig ∧
    (decideCloseIn ch s).2.2.guard = s.guard ∧ (decideCloseIn ch s).2.2.frame = s.frame ∧
    (decideCloseIn ch s).2.2.service = s.service ∧ (decideCloseIn ch s).2.2.setup = s.setup ∧
    (decideCloseIn ch s).2.2.settings = s.settings ∧ (decideCloseIn ch s).2.2.snapshots = s.snapshots ∧
    (decideCloseIn ch s).2.2.flags = s.flags ∧ (decideCloseIn ch s).2.2.pending = s.pending ∧
    (decideCloseIn ch s).2.2.freeDraws = s.freeDraws := by
  unfold decideCloseIn; (try dsimp only); (repeat' split) <;> simp

@[simp] theorem decideHoldIn_frame (ch : Channel) (s : State) :
    (decideHoldIn ch s).2.2.powered = s.powered ∧ (decideHoldIn ch s).2.2.pins = s.pins ∧
    (decideHoldIn ch s).2.2.clock = s.clock ∧ (decideHoldIn ch s).2.2.trunk = s.trunk ∧
    (decideHoldIn ch s).2.2.framer = s.framer ∧ (decideHoldIn ch s).2.2.tb = s.tb ∧
    (decideHoldIn ch s).2.2.station = s.station ∧ (decideHoldIn ch s).2.2.progress = s.progress ∧
    (decideHoldIn ch s).2.2.roster = s.roster ∧ (decideHoldIn ch s).2.2.rollCall = s.rollCall ∧
    (decideHoldIn ch s).2.2.map = s.map ∧ (decideHoldIn ch s).2.2.out = s.out ∧
    (decideHoldIn ch s).2.2.mem = s.mem ∧ (decideHoldIn ch s).2.2.trig = s.trig ∧
    (decideHoldIn ch s).2.2.guard = s.guard ∧ (decideHoldIn ch s).2.2.frame = s.frame ∧
    (decideHoldIn ch s).2.2.service = s.service ∧ (decideHoldIn ch s).2.2.setup = s.setup ∧
    (decideHoldIn ch s).2.2.settings = s.settings ∧ (decideHoldIn ch s).2.2.snapshots = s.snapshots ∧
    (decideHoldIn ch s).2.2.flags = s.flags ∧ (decideHoldIn ch s).2.2.pending = s.pending ∧
    (decideHoldIn ch s).2.2.freeDraws = s.freeDraws := by
  unfold decideHoldIn; (try dsimp only); (repeat' split) <;> simp

@[simp] theorem decideResumeIn_frame (ch : Channel) (s : State) :
    (decideResumeIn ch s).2.2.powered = s.powered ∧ (decideResumeIn ch s).2.2.pins = s.pins ∧
    (decideResumeIn ch s).2.2.clock = s.clock ∧ (decideResumeIn ch s).2.2.trunk = s.trunk ∧
    (decideResumeIn ch s).2.2.framer = s.framer ∧ (decideResumeIn ch s).2.2.tb = s.tb ∧
    (decideResumeIn ch s).2.2.station = s.station ∧ (decideResumeIn ch s).2.2.progress = s.progress ∧
    (decideResumeIn ch s).2.2.roster = s.roster ∧ (decideResumeIn ch s).2.2.rollCall = s.rollCall ∧
    (decideResumeIn ch s).2.2.map = s.map ∧ (decideResumeIn ch s).2.2.out = s.out ∧
    (decideResumeIn ch s).2.2.mem = s.mem ∧ (decideResumeIn ch s).2.2.trig = s.trig ∧
    (decideResumeIn ch s).2.2.guard = s.guard ∧ (decideResumeIn ch s).2.2.frame = s.frame ∧
    (decideResumeIn ch s).2.2.service = s.service ∧ (decideResumeIn ch s).2.2.setup = s.setup ∧
    (decideResumeIn ch s).2.2.settings = s.settings ∧ (decideResumeIn ch s).2.2.snapshots = s.snapshots ∧
    (decideResumeIn ch s).2.2.flags = s.flags ∧ (decideResumeIn ch s).2.2.pending = s.pending ∧
    (decideResumeIn ch s).2.2.freeDraws = s.freeDraws := by
  unfold decideResumeIn; (try dsimp only); (repeat' split) <;> simp

@[simp] theorem decideArmIn_frame (ch : Channel) (start : WindowStart) (stop : WindowStop) (s : State) :
    (decideArmIn ch start stop s).2.2.powered = s.powered ∧ (decideArmIn ch start stop s).2.2.pins = s.pins ∧
    (decideArmIn ch start stop s).2.2.clock = s.clock ∧ (decideArmIn ch start stop s).2.2.trunk = s.trunk ∧
    (decideArmIn ch start stop s).2.2.framer = s.framer ∧ (decideArmIn ch start stop s).2.2.tb = s.tb ∧
    (decideArmIn ch start stop s).2.2.station = s.station ∧
    (decideArmIn ch start stop s).2.2.progress = s.progress ∧
    (decideArmIn ch start stop s).2.2.roster = s.roster ∧
    (decideArmIn ch start stop s).2.2.rollCall = s.rollCall ∧ (decideArmIn ch start stop s).2.2.map = s.map ∧
    (decideArmIn ch start stop s).2.2.out = s.out ∧ (decideArmIn ch start stop s).2.2.mem = s.mem ∧
    (decideArmIn ch start stop s).2.2.trig = s.trig ∧ (decideArmIn ch start stop s).2.2.guard = s.guard ∧
    (decideArmIn ch start stop s).2.2.frame = s.frame ∧ (decideArmIn ch start stop s).2.2.service = s.service ∧
    (decideArmIn ch start stop s).2.2.setup = s.setup ∧
    (decideArmIn ch start stop s).2.2.settings = s.settings ∧
    (decideArmIn ch start stop s).2.2.snapshots = s.snapshots ∧
    (decideArmIn ch start stop s).2.2.flags = s.flags ∧ (decideArmIn ch start stop s).2.2.pending = s.pending ∧
    (decideArmIn ch start stop s).2.2.freeDraws = s.freeDraws := by
  unfold decideArmIn; (try dsimp only); (repeat' split) <;> simp

@[simp] theorem decideDisarmIn_frame (ch : Channel) (s : State) :
    (decideDisarmIn ch s).2.2.powered = s.powered ∧ (decideDisarmIn ch s).2.2.pins = s.pins ∧
    (decideDisarmIn ch s).2.2.clock = s.clock ∧ (decideDisarmIn ch s).2.2.trunk = s.trunk ∧
    (decideDisarmIn ch s).2.2.framer = s.framer ∧ (decideDisarmIn ch s).2.2.tb = s.tb ∧
    (decideDisarmIn ch s).2.2.station = s.station ∧ (decideDisarmIn ch s).2.2.progress = s.progress ∧
    (decideDisarmIn ch s).2.2.roster = s.roster ∧ (decideDisarmIn ch s).2.2.rollCall = s.rollCall ∧
    (decideDisarmIn ch s).2.2.map = s.map ∧ (decideDisarmIn ch s).2.2.out = s.out ∧
    (decideDisarmIn ch s).2.2.mem = s.mem ∧ (decideDisarmIn ch s).2.2.trig = s.trig ∧
    (decideDisarmIn ch s).2.2.guard = s.guard ∧ (decideDisarmIn ch s).2.2.frame = s.frame ∧
    (decideDisarmIn ch s).2.2.service = s.service ∧ (decideDisarmIn ch s).2.2.setup = s.setup ∧
    (decideDisarmIn ch s).2.2.settings = s.settings ∧ (decideDisarmIn ch s).2.2.snapshots = s.snapshots ∧
    (decideDisarmIn ch s).2.2.flags = s.flags ∧ (decideDisarmIn ch s).2.2.pending = s.pending ∧
    (decideDisarmIn ch s).2.2.freeDraws = s.freeDraws := by
  unfold decideDisarmIn; (try dsimp only); (repeat' split) <;> simp

@[simp] theorem decideReadDelivery_frame (ch : Channel) (s : State) :
    (decideReadDelivery ch s).2.2.powered = s.powered ∧ (decideReadDelivery ch s).2.2.pins = s.pins ∧
    (decideReadDelivery ch s).2.2.clock = s.clock ∧ (decideReadDelivery ch s).2.2.trunk = s.trunk ∧
    (decideReadDelivery ch s).2.2.framer = s.framer ∧ (decideReadDelivery ch s).2.2.tb = s.tb ∧
    (decideReadDelivery ch s).2.2.station = s.station ∧ (decideReadDelivery ch s).2.2.progress = s.progress ∧
    (decideReadDelivery ch s).2.2.roster = s.roster ∧ (decideReadDelivery ch s).2.2.rollCall = s.rollCall ∧
    (decideReadDelivery ch s).2.2.map = s.map ∧ (decideReadDelivery ch s).2.2.out = s.out ∧
    (decideReadDelivery ch s).2.2.mem = s.mem ∧ (decideReadDelivery ch s).2.2.trig = s.trig ∧
    (decideReadDelivery ch s).2.2.guard = s.guard ∧ (decideReadDelivery ch s).2.2.frame = s.frame ∧
    (decideReadDelivery ch s).2.2.service = s.service ∧ (decideReadDelivery ch s).2.2.setup = s.setup ∧
    (decideReadDelivery ch s).2.2.settings = s.settings ∧
    (decideReadDelivery ch s).2.2.snapshots = s.snapshots ∧ (decideReadDelivery ch s).2.2.flags = s.flags ∧
    (decideReadDelivery ch s).2.2.pending = s.pending ∧
    (decideReadDelivery ch s).2.2.freeDraws = s.freeDraws := by
  unfold decideReadDelivery; (try dsimp only); (repeat' split) <;> simp

@[simp] theorem decideReadMemory_frame (page offset : Byte) (count : BitVec 16) (s : State) :
    (decideReadMemory page offset count s).2.2.powered = s.powered ∧
    (decideReadMemory page offset count s).2.2.pins = s.pins ∧
    (decideReadMemory page offset count s).2.2.clock = s.clock ∧
    (decideReadMemory page offset count s).2.2.trunk = s.trunk ∧
    (decideReadMemory page offset count s).2.2.framer = s.framer ∧
    (decideReadMemory page offset count s).2.2.tb = s.tb ∧
    (decideReadMemory page offset count s).2.2.station = s.station ∧
    (decideReadMemory page offset count s).2.2.progress = s.progress ∧
    (decideReadMemory page offset count s).2.2.roster = s.roster ∧
    (decideReadMemory page offset count s).2.2.rollCall = s.rollCall ∧
    (decideReadMemory page offset count s).2.2.map = s.map ∧
    (decideReadMemory page offset count s).2.2.out = s.out ∧
    (decideReadMemory page offset count s).2.2.inb = s.inb ∧
    (decideReadMemory page offset count s).2.2.mem = s.mem ∧
    (decideReadMemory page offset count s).2.2.trig = s.trig ∧
    (decideReadMemory page offset count s).2.2.guard = s.guard ∧
    (decideReadMemory page offset count s).2.2.frame = s.frame ∧
    (decideReadMemory page offset count s).2.2.service = s.service ∧
    (decideReadMemory page offset count s).2.2.setup = s.setup ∧
    (decideReadMemory page offset count s).2.2.settings = s.settings ∧
    (decideReadMemory page offset count s).2.2.snapshots = s.snapshots ∧
    (decideReadMemory page offset count s).2.2.flags = s.flags ∧
    (decideReadMemory page offset count s).2.2.pending = s.pending ∧
    (decideReadMemory page offset count s).2.2.freeDraws = s.freeDraws := by
  unfold decideReadMemory; (try dsimp only); (repeat' split) <;> simp

@[simp] theorem decideTakePair_frame (ch : Channel) (s : State) :
    (decideTakePair ch s).2.2.powered = s.powered ∧ (decideTakePair ch s).2.2.pins = s.pins ∧
    (decideTakePair ch s).2.2.clock = s.clock ∧ (decideTakePair ch s).2.2.trunk = s.trunk ∧
    (decideTakePair ch s).2.2.framer = s.framer ∧ (decideTakePair ch s).2.2.tb = s.tb ∧
    (decideTakePair ch s).2.2.station = s.station ∧ (decideTakePair ch s).2.2.progress = s.progress ∧
    (decideTakePair ch s).2.2.roster = s.roster ∧ (decideTakePair ch s).2.2.rollCall = s.rollCall ∧
    (decideTakePair ch s).2.2.map = s.map ∧ (decideTakePair ch s).2.2.out = s.out ∧
    (decideTakePair ch s).2.2.mem = s.mem ∧ (decideTakePair ch s).2.2.trig = s.trig ∧
    (decideTakePair ch s).2.2.guard = s.guard ∧ (decideTakePair ch s).2.2.frame = s.frame ∧
    (decideTakePair ch s).2.2.service = s.service ∧ (decideTakePair ch s).2.2.setup = s.setup ∧
    (decideTakePair ch s).2.2.settings = s.settings ∧ (decideTakePair ch s).2.2.snapshots = s.snapshots ∧
    (decideTakePair ch s).2.2.flags = s.flags ∧ (decideTakePair ch s).2.2.pending = s.pending ∧
    (decideTakePair ch s).2.2.freeDraws = s.freeDraws := by
  unfold decideTakePair; (try dsimp only); (repeat' split) <;> simp

@[simp] theorem decideReturnPair_frame (ch : Channel) (s : State) :
    (decideReturnPair ch s).2.2.powered = s.powered ∧ (decideReturnPair ch s).2.2.pins = s.pins ∧
    (decideReturnPair ch s).2.2.clock = s.clock ∧ (decideReturnPair ch s).2.2.trunk = s.trunk ∧
    (decideReturnPair ch s).2.2.framer = s.framer ∧ (decideReturnPair ch s).2.2.tb = s.tb ∧
    (decideReturnPair ch s).2.2.station = s.station ∧ (decideReturnPair ch s).2.2.progress = s.progress ∧
    (decideReturnPair ch s).2.2.roster = s.roster ∧ (decideReturnPair ch s).2.2.rollCall = s.rollCall ∧
    (decideReturnPair ch s).2.2.map = s.map ∧ (decideReturnPair ch s).2.2.out = s.out ∧
    (decideReturnPair ch s).2.2.mem = s.mem ∧ (decideReturnPair ch s).2.2.trig = s.trig ∧
    (decideReturnPair ch s).2.2.guard = s.guard ∧ (decideReturnPair ch s).2.2.frame = s.frame ∧
    (decideReturnPair ch s).2.2.service = s.service ∧ (decideReturnPair ch s).2.2.setup = s.setup ∧
    (decideReturnPair ch s).2.2.settings = s.settings ∧ (decideReturnPair ch s).2.2.snapshots = s.snapshots ∧
    (decideReturnPair ch s).2.2.flags = s.flags ∧ (decideReturnPair ch s).2.2.pending = s.pending ∧
    (decideReturnPair ch s).2.2.freeDraws = s.freeDraws := by
  unfold decideReturnPair; (try dsimp only); (repeat' split) <;> simp

@[simp] theorem decideReadChannel_frame (d : Direction) (ch : Channel) (s : State) :
    (decideReadChannel d ch s).2.2.powered = s.powered ∧ (decideReadChannel d ch s).2.2.pins = s.pins ∧
    (decideReadChannel d ch s).2.2.clock = s.clock ∧ (decideReadChannel d ch s).2.2.trunk = s.trunk ∧
    (decideReadChannel d ch s).2.2.framer = s.framer ∧ (decideReadChannel d ch s).2.2.tb = s.tb ∧
    (decideReadChannel d ch s).2.2.station = s.station ∧ (decideReadChannel d ch s).2.2.progress = s.progress ∧
    (decideReadChannel d ch s).2.2.roster = s.roster ∧ (decideReadChannel d ch s).2.2.rollCall = s.rollCall ∧
    (decideReadChannel d ch s).2.2.map = s.map ∧ (decideReadChannel d ch s).2.2.out = s.out ∧
    (decideReadChannel d ch s).2.2.inb = s.inb ∧ (decideReadChannel d ch s).2.2.mem = s.mem ∧
    (decideReadChannel d ch s).2.2.trig = s.trig ∧ (decideReadChannel d ch s).2.2.guard = s.guard ∧
    (decideReadChannel d ch s).2.2.frame = s.frame ∧ (decideReadChannel d ch s).2.2.service = s.service ∧
    (decideReadChannel d ch s).2.2.setup = s.setup ∧ (decideReadChannel d ch s).2.2.settings = s.settings ∧
    (decideReadChannel d ch s).2.2.snapshots = s.snapshots ∧ (decideReadChannel d ch s).2.2.flags = s.flags ∧
    (decideReadChannel d ch s).2.2.pending = s.pending ∧
    (decideReadChannel d ch s).2.2.freeDraws = s.freeDraws := by
  unfold decideReadChannel; (try dsimp only); (repeat' split) <;> simp

@[simp] theorem decideReadLive_frame (c : RecordClass) (i : Byte) (s : State) :
    (decideReadLive c i s).2.2.powered = s.powered ∧ (decideReadLive c i s).2.2.pins = s.pins ∧
    (decideReadLive c i s).2.2.clock = s.clock ∧ (decideReadLive c i s).2.2.trunk = s.trunk ∧
    (decideReadLive c i s).2.2.framer = s.framer ∧ (decideReadLive c i s).2.2.tb = s.tb ∧
    (decideReadLive c i s).2.2.station = s.station ∧ (decideReadLive c i s).2.2.progress = s.progress ∧
    (decideReadLive c i s).2.2.roster = s.roster ∧ (decideReadLive c i s).2.2.rollCall = s.rollCall ∧
    (decideReadLive c i s).2.2.map = s.map ∧ (decideReadLive c i s).2.2.out = s.out ∧
    (decideReadLive c i s).2.2.inb = s.inb ∧ (decideReadLive c i s).2.2.mem = s.mem ∧
    (decideReadLive c i s).2.2.trig = s.trig ∧ (decideReadLive c i s).2.2.guard = s.guard ∧
    (decideReadLive c i s).2.2.frame = s.frame ∧ (decideReadLive c i s).2.2.service = s.service ∧
    (decideReadLive c i s).2.2.setup = s.setup ∧ (decideReadLive c i s).2.2.settings = s.settings ∧
    (decideReadLive c i s).2.2.snapshots = s.snapshots ∧ (decideReadLive c i s).2.2.flags = s.flags ∧
    (decideReadLive c i s).2.2.pending = s.pending ∧
    (decideReadLive c i s).2.2.freeDraws = s.freeDraws := by
  unfold decideReadLive; (try dsimp only); (repeat' split) <;> simp

@[simp] theorem decideReadSnapshot_frame (c : RecordClass) (i : Byte) (s : State) :
    (decideReadSnapshot c i s).2.2.powered = s.powered ∧ (decideReadSnapshot c i s).2.2.pins = s.pins ∧
    (decideReadSnapshot c i s).2.2.clock = s.clock ∧ (decideReadSnapshot c i s).2.2.trunk = s.trunk ∧
    (decideReadSnapshot c i s).2.2.framer = s.framer ∧ (decideReadSnapshot c i s).2.2.tb = s.tb ∧
    (decideReadSnapshot c i s).2.2.station = s.station ∧ (decideReadSnapshot c i s).2.2.progress = s.progress ∧
    (decideReadSnapshot c i s).2.2.roster = s.roster ∧ (decideReadSnapshot c i s).2.2.rollCall = s.rollCall ∧
    (decideReadSnapshot c i s).2.2.map = s.map ∧ (decideReadSnapshot c i s).2.2.out = s.out ∧
    (decideReadSnapshot c i s).2.2.inb = s.inb ∧ (decideReadSnapshot c i s).2.2.mem = s.mem ∧
    (decideReadSnapshot c i s).2.2.trig = s.trig ∧ (decideReadSnapshot c i s).2.2.guard = s.guard ∧
    (decideReadSnapshot c i s).2.2.frame = s.frame ∧ (decideReadSnapshot c i s).2.2.service = s.service ∧
    (decideReadSnapshot c i s).2.2.setup = s.setup ∧ (decideReadSnapshot c i s).2.2.settings = s.settings ∧
    (decideReadSnapshot c i s).2.2.snapshots = s.snapshots ∧ (decideReadSnapshot c i s).2.2.flags = s.flags ∧
    (decideReadSnapshot c i s).2.2.pending = s.pending ∧
    (decideReadSnapshot c i s).2.2.freeDraws = s.freeDraws := by
  unfold decideReadSnapshot; (try dsimp only); (repeat' split) <;> simp

@[simp] theorem decideSnapshot_frame (s : State) :
    (decideSnapshot s).2.2.powered = s.powered ∧ (decideSnapshot s).2.2.pins = s.pins ∧
    (decideSnapshot s).2.2.clock = s.clock ∧ (decideSnapshot s).2.2.trunk = s.trunk ∧
    (decideSnapshot s).2.2.framer = s.framer ∧ (decideSnapshot s).2.2.tb = s.tb ∧
    (decideSnapshot s).2.2.station = s.station ∧ (decideSnapshot s).2.2.progress = s.progress ∧
    (decideSnapshot s).2.2.roster = s.roster ∧ (decideSnapshot s).2.2.rollCall = s.rollCall ∧
    (decideSnapshot s).2.2.map = s.map ∧ (decideSnapshot s).2.2.out = s.out ∧
    (decideSnapshot s).2.2.inb = s.inb ∧ (decideSnapshot s).2.2.mem = s.mem ∧
    (decideSnapshot s).2.2.trig = s.trig ∧ (decideSnapshot s).2.2.guard = s.guard ∧
    (decideSnapshot s).2.2.frame = s.frame ∧ (decideSnapshot s).2.2.service = s.service ∧
    (decideSnapshot s).2.2.setup = s.setup ∧ (decideSnapshot s).2.2.settings = s.settings ∧
    (decideSnapshot s).2.2.flags = s.flags ∧ (decideSnapshot s).2.2.pending = s.pending ∧
    (decideSnapshot s).2.2.freeDraws = s.freeDraws := by
  unfold decideSnapshot; (try dsimp only); (repeat' split) <;> simp

@[simp] theorem decideReadSummary_frame (s : State) :
    (decideReadSummary s).2.2.powered = s.powered ∧ (decideReadSummary s).2.2.pins = s.pins ∧
    (decideReadSummary s).2.2.clock = s.clock ∧ (decideReadSummary s).2.2.trunk = s.trunk ∧
    (decideReadSummary s).2.2.framer = s.framer ∧ (decideReadSummary s).2.2.tb = s.tb ∧
    (decideReadSummary s).2.2.station = s.station ∧ (decideReadSummary s).2.2.progress = s.progress ∧
    (decideReadSummary s).2.2.roster = s.roster ∧ (decideReadSummary s).2.2.rollCall = s.rollCall ∧
    (decideReadSummary s).2.2.map = s.map ∧ (decideReadSummary s).2.2.out = s.out ∧
    (decideReadSummary s).2.2.inb = s.inb ∧ (decideReadSummary s).2.2.mem = s.mem ∧
    (decideReadSummary s).2.2.trig = s.trig ∧ (decideReadSummary s).2.2.guard = s.guard ∧
    (decideReadSummary s).2.2.frame = s.frame ∧ (decideReadSummary s).2.2.service = s.service ∧
    (decideReadSummary s).2.2.setup = s.setup ∧ (decideReadSummary s).2.2.settings = s.settings ∧
    (decideReadSummary s).2.2.snapshots = s.snapshots ∧ (decideReadSummary s).2.2.pending = s.pending ∧
    (decideReadSummary s).2.2.freeDraws = s.freeDraws := by
  unfold decideReadSummary; (try dsimp only); (repeat' split) <;> simp

@[simp] theorem decideRejoin_frame (s : State) :
    (decideRejoin s).2.2.powered = s.powered ∧ (decideRejoin s).2.2.pins = s.pins ∧
    (decideRejoin s).2.2.clock = s.clock ∧ (decideRejoin s).2.2.framer = s.framer ∧
    (decideRejoin s).2.2.rollCall = s.rollCall ∧ (decideRejoin s).2.2.mem = s.mem ∧
    (decideRejoin s).2.2.frame = s.frame ∧ (decideRejoin s).2.2.service = s.service ∧
    (decideRejoin s).2.2.setup = s.setup ∧ (decideRejoin s).2.2.settings = s.settings ∧
    (decideRejoin s).2.2.snapshots = s.snapshots ∧ (decideRejoin s).2.2.pending = s.pending ∧
    (decideRejoin s).2.2.freeDraws = s.freeDraws ∧
    (decideRejoin s).2.2.trunk.switch = s.trunk.switch ∧ (decideRejoin s).2.2.trunk.sending = s.trunk.sending ∧
    (decideRejoin s).2.2.tb.period = s.tb.period ∧ (decideRejoin s).2.2.guard.thresholds = s.guard.thresholds ∧
    (decideRejoin s).2.2.trig.settings = s.trig.settings ∧ (decideRejoin s).2.2.trig.filtered = s.trig.filtered := by
  unfold decideRejoin; (try dsimp only); (repeat' split) <;> simp

@[simp] theorem decideLeave_frame (s : State) :
    (decideLeave s).2.2.powered = s.powered ∧ (decideLeave s).2.2.pins = s.pins ∧
    (decideLeave s).2.2.clock = s.clock ∧ (decideLeave s).2.2.framer = s.framer ∧
    (decideLeave s).2.2.rollCall = s.rollCall ∧ (decideLeave s).2.2.mem = s.mem ∧
    (decideLeave s).2.2.frame = s.frame ∧ (decideLeave s).2.2.service = s.service ∧
    (decideLeave s).2.2.setup = s.setup ∧ (decideLeave s).2.2.settings = s.settings ∧
    (decideLeave s).2.2.snapshots = s.snapshots ∧ (decideLeave s).2.2.pending = s.pending ∧
    (decideLeave s).2.2.freeDraws = s.freeDraws ∧
    (decideLeave s).2.2.trunk.switch = s.trunk.switch ∧ (decideLeave s).2.2.trunk.sending = s.trunk.sending ∧
    (decideLeave s).2.2.tb.period = s.tb.period ∧ (decideLeave s).2.2.guard.thresholds = s.guard.thresholds ∧
    (decideLeave s).2.2.trig.settings = s.trig.settings ∧ (decideLeave s).2.2.trig.filtered = s.trig.filtered := by
  unfold decideLeave; (try dsimp only); (repeat' split) <;> simp

@[simp] theorem decideClearIsolation_frame (s : State) :
    (decideClearIsolation s).2.2.powered = s.powered ∧ (decideClearIsolation s).2.2.pins = s.pins ∧
    (decideClearIsolation s).2.2.clock = s.clock ∧ (decideClearIsolation s).2.2.framer = s.framer ∧
    (decideClearIsolation s).2.2.rollCall = s.rollCall ∧ (decideClearIsolation s).2.2.mem = s.mem ∧
    (decideClearIsolation s).2.2.frame = s.frame ∧ (decideClearIsolation s).2.2.service = s.service ∧
    (decideClearIsolation s).2.2.setup = s.setup ∧ (decideClearIsolation s).2.2.settings = s.settings ∧
    (decideClearIsolation s).2.2.snapshots = s.snapshots ∧ (decideClearIsolation s).2.2.pending = s.pending ∧
    (decideClearIsolation s).2.2.freeDraws = s.freeDraws ∧
    (decideClearIsolation s).2.2.trunk.switch = s.trunk.switch ∧
    (decideClearIsolation s).2.2.trunk.sending = s.trunk.sending ∧
    (decideClearIsolation s).2.2.tb.period = s.tb.period ∧
    (decideClearIsolation s).2.2.trig.settings = s.trig.settings ∧
    (decideClearIsolation s).2.2.trig.filtered = s.trig.filtered := by
  unfold decideClearIsolation; (try dsimp only); (repeat' split) <;> simp

/-! ### What each command leaves unchanged -/

theorem execTakeMark_frame (m : Mark) (received : Nat) (s : State) {u : State} (h : execTakeMark m received s = .next u) :
    u.powered = s.powered ∧ u.pins = s.pins ∧ u.mem = s.mem ∧ u.frame = s.frame ∧ u.service = s.service ∧
    u.setup = s.setup ∧ u.settings = s.settings ∧ u.pending = s.pending ∧ u.trunk.switch = s.trunk.switch ∧
    u.guard.thresholds = s.guard.thresholds ∧ u.trig.settings = s.trig.settings ∧
    u.trig.filtered = s.trig.filtered := by
  simp only [execTakeMark, Host.Outcome.next.injEq] at h
  subst h
  (repeat' split) <;> simp

theorem execTakeTakeover_frame (t : Takeover) (received : Nat) (s : State) {u : State} (h : execTakeTakeover t received s = .next u) :
    u.powered = s.powered ∧ u.pins = s.pins ∧ u.clock = s.clock ∧ u.rollCall = s.rollCall ∧ u.mem = s.mem ∧
    u.frame = s.frame ∧ u.service = s.service ∧ u.setup = s.setup ∧ u.settings = s.settings ∧
    u.pending = s.pending ∧ u.trunk.switch = s.trunk.switch ∧ u.framer.round = s.framer.round ∧
    u.framer.opening = s.framer.opening ∧ u.guard.thresholds = s.guard.thresholds ∧
    u.trig.settings = s.trig.settings ∧ u.trig.filtered = s.trig.filtered := by
  simp only [execTakeTakeover, Host.Outcome.next.injEq] at h
  subst h
  (repeat' split) <;> simp

theorem execTakeHandoff_frame (h : Handoff) (s : State) {u : State} (h : execTakeHandoff h s = .next u) :
    u.powered = s.powered ∧ u.pins = s.pins ∧ u.clock = s.clock ∧ u.rollCall = s.rollCall ∧ u.mem = s.mem ∧
    u.frame = s.frame ∧ u.service = s.service ∧ u.setup = s.setup ∧ u.settings = s.settings ∧
    u.pending = s.pending ∧ u.trunk.switch = s.trunk.switch ∧ u.framer.round = s.framer.round ∧
    u.framer.opening = s.framer.opening ∧ u.guard.thresholds = s.guard.thresholds ∧
    u.trig.settings = s.trig.settings ∧ u.trig.filtered = s.trig.filtered := by
  simp only [execTakeHandoff, Host.Outcome.next.injEq] at h
  subst h
  (repeat' split) <;> simp

theorem execTakePresenceWord_frame (p : Presence) (s : State) {u : State} (h : execTakePresenceWord p s = .next u) :
    u.powered = s.powered ∧ u.pins = s.pins ∧ u.clock = s.clock ∧ u.framer = s.framer ∧ u.mem = s.mem ∧
    u.frame = s.frame ∧ u.service = s.service ∧ u.setup = s.setup ∧ u.settings = s.settings ∧
    u.snapshots = s.snapshots ∧ u.pending = s.pending ∧
    u.freeDraws = s.freeDraws ∧ u.trunk.switch = s.trunk.switch ∧
    u.tb.period = s.tb.period ∧ u.guard.thresholds = s.guard.thresholds ∧ u.trig.settings = s.trig.settings ∧
    u.trig.filtered = s.trig.filtered := by
  simp only [execTakePresenceWord, Host.Outcome.next.injEq] at h
  subst h
  (repeat' split) <;> simp

theorem execTakeJoin_frame (j : Join) (s : State) {u : State} (h : execTakeJoin j s = .next u) :
    u.powered = s.powered ∧ u.pins = s.pins ∧ u.clock = s.clock ∧ u.framer = s.framer ∧
    u.rollCall = s.rollCall ∧ u.mem = s.mem ∧ u.trig = s.trig ∧ u.frame = s.frame ∧ u.service = s.service ∧
    u.setup = s.setup ∧ u.settings = s.settings ∧ u.snapshots = s.snapshots ∧ u.pending = s.pending ∧
    u.trunk.switch = s.trunk.switch ∧ u.tb.period = s.tb.period ∧ u.guard.interval = s.guard.interval ∧
    u.guard.thresholds = s.guard.thresholds ∧ u.map.resync = s.map.resync ∧
    u.progress.leaveClosingDue = s.progress.leaveClosingDue ∧ u.progress.leavingDue = s.progress.leavingDue ∧
    u.progress.ownLeaveTaken = s.progress.ownLeaveTaken ∧ u.tb.listen = s.tb.listen := by
  simp only [execTakeJoin, Host.Outcome.next.injEq] at h
  subst h
  (repeat' split) <;> simp

theorem execTakeLeave_frame (l : Leave) (s : State) {u : State} (h : execTakeLeave l s = .next u) :
    u.powered = s.powered ∧ u.pins = s.pins ∧ u.clock = s.clock ∧ u.framer = s.framer ∧
    u.rollCall = s.rollCall ∧ u.mem = s.mem ∧ u.frame = s.frame ∧ u.service = s.service ∧ u.setup = s.setup ∧
    u.settings = s.settings ∧ u.snapshots = s.snapshots ∧ u.pending = s.pending ∧
    u.trunk.switch = s.trunk.switch ∧ u.tb.period = s.tb.period ∧ u.guard.thresholds = s.guard.thresholds ∧
    u.trig.settings = s.trig.settings ∧ u.trig.filtered = s.trig.filtered := by
  simp only [execTakeLeave, Host.Outcome.next.injEq] at h
  subst h
  (repeat' split) <;> simp

theorem execTakeClaim_frame (c : Claim) (s : State) {u : State} (h : execTakeClaim c s = .next u) :
    u.powered = s.powered ∧ u.pins = s.pins ∧ u.clock = s.clock ∧ u.framer = s.framer ∧ u.station = s.station ∧
    u.progress = s.progress ∧ u.roster = s.roster ∧ u.rollCall = s.rollCall ∧ u.mem = s.mem ∧ u.trig = s.trig ∧
    u.frame = s.frame ∧ u.service = s.service ∧ u.setup = s.setup ∧ u.settings = s.settings ∧
    u.snapshots = s.snapshots ∧ u.pending = s.pending ∧ u.trunk.switch = s.trunk.switch ∧
    u.tb.period = s.tb.period ∧ u.guard.interval = s.guard.interval ∧ u.guard.thresholds = s.guard.thresholds ∧
    u.map.resync = s.map.resync ∧ u.tb.listen = s.tb.listen := by
  simp only [execTakeClaim, Host.Outcome.next.injEq] at h
  subst h
  (repeat' split) <;> simp

theorem execTakeRelease_frame (r : Release) (s : State) {u : State} (h : execTakeRelease r s = .next u) :
    u.powered = s.powered ∧ u.pins = s.pins ∧ u.clock = s.clock ∧ u.framer = s.framer ∧ u.station = s.station ∧
    u.progress = s.progress ∧ u.roster = s.roster ∧ u.rollCall = s.rollCall ∧ u.mem = s.mem ∧ u.trig = s.trig ∧
    u.frame = s.frame ∧ u.service = s.service ∧ u.setup = s.setup ∧ u.settings = s.settings ∧
    u.snapshots = s.snapshots ∧ u.pending = s.pending ∧ u.trunk.switch = s.trunk.switch ∧
    u.tb.period = s.tb.period ∧ u.guard.interval = s.guard.interval ∧ u.guard.thresholds = s.guard.thresholds ∧
    u.tb.listen = s.tb.listen := by
  simp only [execTakeRelease, Host.Outcome.next.injEq] at h
  subst h
  (repeat' split) <;> simp

theorem execTakeSample_frame (p : Sample) (s : State) {u : State} (h : execTakeSample p s = .next u) :
    u.powered = s.powered ∧ u.pins = s.pins ∧ u.clock = s.clock ∧ u.framer = s.framer ∧ u.roster = s.roster ∧
    u.rollCall = s.rollCall ∧ u.trig = s.trig ∧ u.frame = s.frame ∧ u.service = s.service ∧ u.setup = s.setup ∧
    u.settings = s.settings ∧ u.snapshots = s.snapshots ∧ u.pending = s.pending ∧
    u.freeDraws = s.freeDraws ∧
    u.trunk.switch = s.trunk.switch ∧ u.tb.period = s.tb.period ∧ u.guard.interval = s.guard.interval ∧
    u.guard.thresholds = s.guard.thresholds ∧ u.map.entries = s.map.entries ∧ u.map.epoch = s.map.epoch ∧
    u.tb.listen = s.tb.listen := by
  simp only [execTakeSample, Host.Outcome.next.injEq] at h
  subst h
  (repeat' split) <;> simp

theorem execTakeTrigger_frame (t : Trigger) (s : State) {u : State} (h : execTakeTrigger t s = .next u) :
    u.powered = s.powered ∧ u.pins = s.pins ∧ u.clock = s.clock ∧ u.framer = s.framer ∧ u.station = s.station ∧
    u.progress = s.progress ∧ u.roster = s.roster ∧ u.rollCall = s.rollCall ∧ u.map = s.map ∧ u.mem = s.mem ∧
    u.frame = s.frame ∧ u.service = s.service ∧ u.setup = s.setup ∧ u.settings = s.settings ∧
    u.snapshots = s.snapshots ∧ u.pending = s.pending ∧
    u.freeDraws = s.freeDraws ∧ u.trunk.switch = s.trunk.switch ∧
    u.tb.period = s.tb.period ∧ u.guard.interval = s.guard.interval ∧ u.guard.thresholds = s.guard.thresholds ∧
    u.tb.listen = s.tb.listen ∧ u.trig.settings = s.trig.settings ∧ u.trig.filtered = s.trig.filtered := by
  simp only [execTakeTrigger, Host.Outcome.next.injEq] at h
  subst h
  (repeat' split) <;> simp

theorem execFailedPacketReceived_frame (heard : List Byte) (s : State) {u : State} (h : execFailedPacketReceived heard s = .next u) :
    u.powered = s.powered ∧ u.pins = s.pins ∧ u.clock = s.clock ∧ u.framer = s.framer ∧ u.roster = s.roster ∧
    u.rollCall = s.rollCall ∧ u.trig = s.trig ∧ u.frame = s.frame ∧ u.service = s.service ∧ u.setup = s.setup ∧
    u.settings = s.settings ∧ u.snapshots = s.snapshots ∧ u.pending = s.pending ∧
    u.freeDraws = s.freeDraws ∧
    u.trunk.switch = s.trunk.switch ∧ u.trunk.sending = s.trunk.sending ∧ u.tb.period = s.tb.period ∧
    u.guard.interval = s.guard.interval ∧ u.guard.thresholds = s.guard.thresholds ∧
    u.map.entries = s.map.entries ∧ u.map.epoch = s.map.epoch ∧ u.tb.listen = s.tb.listen := by
  simp only [execFailedPacketReceived, Host.Outcome.next.injEq] at h
  subst h
  (repeat' split) <;> simp

theorem execSupplyLoss_frame (s : State) {u : State} (h : execSupplyLoss s = .next u) :
    u.pins = s.pins ∧ u.clock = s.clock ∧ u.framer = s.framer ∧ u.tb = s.tb ∧ u.station = s.station ∧
    u.progress = s.progress ∧ u.roster = s.roster ∧ u.rollCall = s.rollCall ∧ u.map = s.map ∧ u.out = s.out ∧
    u.inb = s.inb ∧ u.mem = s.mem ∧ u.trig = s.trig ∧ u.guard = s.guard ∧ u.frame = s.frame ∧
    u.service = s.service ∧ u.setup = s.setup ∧ u.settings = s.settings ∧ u.snapshots = s.snapshots ∧
    u.flags = s.flags ∧ u.pending = s.pending ∧
    u.freeDraws = s.freeDraws ∧ u.trunk.queue = s.trunk.queue ∧
    u.trunk.waiting = s.trunk.waiting := by
  simp only [execSupplyLoss, Host.Outcome.next.injEq] at h
  subst h
  (repeat' split) <;> simp

theorem execSetupLoadEnd_frame (straps : StationId) (supplied : List Byte) (s : State) {u : State} (h : execSetupLoadEnd straps supplied s = .next u) :
    u.powered = s.powered ∧ u.pins = s.pins ∧ u.clock = s.clock ∧ u.framer = s.framer ∧
    u.rollCall = s.rollCall ∧ u.mem = s.mem ∧ u.frame = s.frame ∧ u.service = s.service ∧
    u.snapshots = s.snapshots ∧ u.pending = s.pending ∧
    u.freeDraws = s.freeDraws ∧ u.trunk.switch = s.trunk.switch ∧
    u.trunk.sending = s.trunk.sending ∧ u.tb.period = s.tb.period ∧ u.guard.state = s.guard.state ∧
    u.guard.interval = s.guard.interval ∧ u.trig.pendingTrigger = s.trig.pendingTrigger := by
  simp only [execSetupLoadEnd, Host.Outcome.next.injEq] at h
  subst h
  (repeat' split) <;> simp

theorem execEjectRise_frame (s : State) {u : State} (h : execEjectRise s = .next u) :
    u.powered = s.powered ∧ u.clock = s.clock ∧ u.framer = s.framer ∧ u.rollCall = s.rollCall ∧ u.mem = s.mem ∧
    u.frame = s.frame ∧ u.service = s.service ∧ u.setup = s.setup ∧ u.settings = s.settings ∧
    u.snapshots = s.snapshots ∧ u.pending = s.pending ∧
    u.freeDraws = s.freeDraws ∧ u.trunk.switch = s.trunk.switch ∧
    u.trunk.sending = s.trunk.sending ∧ u.tb.period = s.tb.period ∧ u.guard.thresholds = s.guard.thresholds ∧
    u.trig.settings = s.trig.settings ∧ u.trig.filtered = s.trig.filtered := by
  simp only [execEjectRise, Host.Outcome.next.injEq] at h
  subst h
  (repeat' split) <;> simp

theorem execEjectFall_frame (s : State) {u : State} (h : execEjectFall s = .next u) :
    u.powered = s.powered ∧ u.clock = s.clock ∧ u.framer = s.framer ∧ u.rollCall = s.rollCall ∧ u.mem = s.mem ∧
    u.guard = s.guard ∧ u.frame = s.frame ∧ u.service = s.service ∧ u.setup = s.setup ∧
    u.settings = s.settings ∧ u.snapshots = s.snapshots ∧ u.pending = s.pending ∧
    u.freeDraws = s.freeDraws ∧
    u.trunk.switch = s.trunk.switch ∧ u.trunk.sending = s.trunk.sending ∧ u.tb.period = s.tb.period ∧
    u.trig.pendingTrigger = s.trig.pendingTrigger ∧ u.trig.settings = s.trig.settings ∧
    u.trig.filtered = s.trig.filtered := by
  simp only [execEjectFall, Host.Outcome.next.injEq] at h
  subst h
  (repeat' split) <;> simp

theorem execStartLineRise_frame (s : State) {u : State} (h : execStartLineRise s = .next u) :
    u.powered = s.powered ∧ u.clock = s.clock ∧ u.framer = s.framer ∧ u.rollCall = s.rollCall ∧ u.mem = s.mem ∧
    u.guard = s.guard ∧ u.frame = s.frame ∧ u.service = s.service ∧ u.setup = s.setup ∧
    u.settings = s.settings ∧ u.snapshots = s.snapshots ∧ u.pending = s.pending ∧
    u.freeDraws = s.freeDraws ∧
    u.trunk.switch = s.trunk.switch ∧ u.trunk.sending = s.trunk.sending ∧ u.tb.period = s.tb.period ∧
    u.trig.pendingTrigger = s.trig.pendingTrigger ∧ u.trig.settings = s.trig.settings ∧
    u.trig.filtered = s.trig.filtered := by
  simp only [execStartLineRise, Host.Outcome.next.injEq] at h
  subst h
  (repeat' split) <;> simp

theorem execStartLineFall_frame (s : State) {u : State} (h : execStartLineFall s = .next u) :
    u.powered = s.powered ∧ u.clock = s.clock ∧ u.trunk = s.trunk ∧ u.framer = s.framer ∧ u.tb = s.tb ∧
    u.station = s.station ∧ u.progress = s.progress ∧ u.roster = s.roster ∧ u.rollCall = s.rollCall ∧
    u.map = s.map ∧ u.out = s.out ∧ u.inb = s.inb ∧ u.mem = s.mem ∧ u.trig = s.trig ∧ u.guard = s.guard ∧
    u.frame = s.frame ∧ u.service = s.service ∧ u.setup = s.setup ∧ u.settings = s.settings ∧
    u.snapshots = s.snapshots ∧ u.flags = s.flags ∧ u.pending = s.pending ∧
    u.freeDraws = s.freeDraws := by
  simp only [execStartLineFall, Host.Outcome.next.injEq] at h
  subst h
  (repeat' split) <;> simp

theorem execReferenceAppears_frame (i : RefInput) (s : State) {u : State} (h : execReferenceAppears i s = .next u) :
    u.powered = s.powered ∧ u.clock = s.clock ∧ u.framer = s.framer ∧ u.station = s.station ∧
    u.progress = s.progress ∧ u.roster = s.roster ∧ u.rollCall = s.rollCall ∧ u.map = s.map ∧ u.inb = s.inb ∧
    u.mem = s.mem ∧ u.trig = s.trig ∧ u.guard = s.guard ∧ u.frame = s.frame ∧ u.service = s.service ∧
    u.setup = s.setup ∧ u.settings = s.settings ∧ u.snapshots = s.snapshots ∧ u.pending = s.pending ∧
    u.freeDraws = s.freeDraws ∧
    u.trunk.switch = s.trunk.switch ∧ u.trunk.sending = s.trunk.sending ∧ u.tb.period = s.tb.period ∧
    u.tb.listen = s.tb.listen := by
  simp only [execReferenceAppears, Host.Outcome.next.injEq] at h
  subst h
  (repeat' split) <;> simp

theorem execReferenceLost_frame (i : RefInput) (s : State) {u : State} (h : execReferenceLost i s = .next u) :
    u.powered = s.powered ∧ u.clock = s.clock ∧ u.framer = s.framer ∧ u.station = s.station ∧
    u.progress = s.progress ∧ u.roster = s.roster ∧ u.rollCall = s.rollCall ∧ u.map = s.map ∧ u.inb = s.inb ∧
    u.mem = s.mem ∧ u.trig = s.trig ∧ u.guard = s.guard ∧ u.frame = s.frame ∧ u.service = s.service ∧
    u.setup = s.setup ∧ u.settings = s.settings ∧ u.snapshots = s.snapshots ∧ u.pending = s.pending ∧
    u.freeDraws = s.freeDraws ∧
    u.trunk.switch = s.trunk.switch ∧ u.trunk.sending = s.trunk.sending ∧ u.tb.period = s.tb.period ∧
    u.tb.listen = s.tb.listen := by
  simp only [execReferenceLost, Host.Outcome.next.injEq] at h
  subst h
  (repeat' split) <;> simp

theorem execAcquisitionComplete_frame (s : State) {u : State} (h : execAcquisitionComplete s = .next u) :
    u.powered = s.powered ∧ u.pins = s.pins ∧ u.framer = s.framer ∧ u.station = s.station ∧
    u.progress = s.progress ∧ u.roster = s.roster ∧ u.rollCall = s.rollCall ∧ u.map = s.map ∧ u.inb = s.inb ∧
    u.mem = s.mem ∧ u.trig = s.trig ∧ u.guard = s.guard ∧ u.frame = s.frame ∧ u.service = s.service ∧
    u.setup = s.setup ∧ u.settings = s.settings ∧ u.snapshots = s.snapshots ∧ u.pending = s.pending ∧
    u.freeDraws = s.freeDraws ∧
    u.trunk.switch = s.trunk.switch ∧ u.trunk.sending = s.trunk.sending ∧ u.tb.period = s.tb.period ∧
    u.tb.listen = s.tb.listen := by
  simp only [execAcquisitionComplete, Host.Outcome.next.injEq] at h
  subst h
  (repeat' split) <;> simp

theorem execHoldoverExpiry_frame (s : State) {u : State} (h : execHoldoverExpiry s = .next u) :
    u.powered = s.powered ∧ u.pins = s.pins ∧ u.framer = s.framer ∧ u.station = s.station ∧
    u.progress = s.progress ∧ u.roster = s.roster ∧ u.rollCall = s.rollCall ∧ u.map = s.map ∧ u.inb = s.inb ∧
    u.mem = s.mem ∧ u.trig = s.trig ∧ u.guard = s.guard ∧ u.frame = s.frame ∧ u.service = s.service ∧
    u.setup = s.setup ∧ u.settings = s.settings ∧ u.snapshots = s.snapshots ∧ u.pending = s.pending ∧
    u.freeDraws = s.freeDraws ∧
    u.trunk.switch = s.trunk.switch ∧ u.trunk.sending = s.trunk.sending ∧ u.tb.period = s.tb.period ∧
    u.tb.listen = s.tb.listen := by
  simp only [execHoldoverExpiry, Host.Outcome.next.injEq] at h
  subst h
  (repeat' split) <;> simp

theorem execRackTimeHoldEnd_frame (s : State) {u : State} (h : execRackTimeHoldEnd s = .next u) :
    u.powered = s.powered ∧ u.pins = s.pins ∧ u.framer = s.framer ∧ u.station = s.station ∧
    u.progress = s.progress ∧ u.roster = s.roster ∧ u.rollCall = s.rollCall ∧ u.map = s.map ∧ u.inb = s.inb ∧
    u.mem = s.mem ∧ u.trig = s.trig ∧ u.guard = s.guard ∧ u.frame = s.frame ∧ u.service = s.service ∧
    u.setup = s.setup ∧ u.settings = s.settings ∧ u.snapshots = s.snapshots ∧ u.pending = s.pending ∧
    u.freeDraws = s.freeDraws ∧
    u.trunk.switch = s.trunk.switch ∧ u.trunk.sending = s.trunk.sending ∧ u.tb.period = s.tb.period ∧
    u.tb.listen = s.tb.listen := by
  simp only [execRackTimeHoldEnd, Host.Outcome.next.injEq] at h
  subst h
  (repeat' split) <;> simp

theorem execCutIn_frame (s : State) {u : State} (h : execCutIn s = .next u) :
    u.powered = s.powered ∧ u.pins = s.pins ∧ u.clock = s.clock ∧ u.framer = s.framer ∧ u.station = s.station ∧
    u.roster = s.roster ∧ u.rollCall = s.rollCall ∧ u.map = s.map ∧ u.inb = s.inb ∧ u.mem = s.mem ∧
    u.trig = s.trig ∧ u.frame = s.frame ∧ u.service = s.service ∧ u.setup = s.setup ∧ u.settings = s.settings ∧
    u.snapshots = s.snapshots ∧ u.pending = s.pending ∧
    u.freeDraws = s.freeDraws ∧ u.trunk.sending = s.trunk.sending ∧
    u.tb.period = s.tb.period ∧ u.guard.state = s.guard.state ∧ u.guard.thresholds = s.guard.thresholds ∧
    u.progress.leaveClosingDue = s.progress.leaveClosingDue ∧ u.progress.leavingDue = s.progress.leavingDue ∧
    u.progress.ownLeaveTaken = s.progress.ownLeaveTaken := by
  simp only [execCutIn, Host.Outcome.next.injEq] at h
  subst h
  (repeat' split) <;> simp

theorem execCutOut_frame (s : State) {u : State} (h : execCutOut s = .next u) :
    u.powered = s.powered ∧ u.pins = s.pins ∧ u.clock = s.clock ∧ u.framer = s.framer ∧ u.station = s.station ∧
    u.progress = s.progress ∧ u.roster = s.roster ∧ u.rollCall = s.rollCall ∧ u.map = s.map ∧ u.inb = s.inb ∧
    u.mem = s.mem ∧ u.frame = s.frame ∧ u.service = s.service ∧ u.setup = s.setup ∧ u.settings = s.settings ∧
    u.snapshots = s.snapshots ∧ u.pending = s.pending ∧
    u.freeDraws = s.freeDraws ∧ u.trunk.sending = s.trunk.sending ∧
    u.tb.period = s.tb.period ∧ u.guard.state = s.guard.state ∧ u.guard.thresholds = s.guard.thresholds ∧
    u.tb.listen = s.tb.listen ∧ u.trig.settings = s.trig.settings ∧ u.trig.filtered = s.trig.filtered := by
  simp only [execCutOut, Host.Outcome.next.injEq] at h
  subst h
  (repeat' split) <;> simp

theorem execMarkDue_frame (pair : PairAt) (s : State) {u : State} (h : execMarkDue pair s = .next u) :
    u.powered = s.powered ∧ u.pins = s.pins ∧ u.mem = s.mem ∧ u.frame = s.frame ∧ u.service = s.service ∧
    u.setup = s.setup ∧ u.settings = s.settings ∧ u.pending = s.pending ∧ u.trunk.switch = s.trunk.switch ∧
    u.tb.period = s.tb.period ∧ u.guard.thresholds = s.guard.thresholds ∧ u.trig.settings = s.trig.settings ∧
    u.trig.filtered = s.trig.filtered := by
  simp only [execMarkDue, Host.Outcome.next.injEq] at h
  subst h
  (repeat' split) <;> simp

theorem execRoundBoundary_frame (s : State) {u : State} (h : execRoundBoundary s = .next u) :
    u.powered = s.powered ∧ u.pins = s.pins ∧ u.mem = s.mem ∧ u.frame = s.frame ∧ u.service = s.service ∧
    u.setup = s.setup ∧ u.settings = s.settings ∧ u.pending = s.pending ∧
    u.freeDraws = s.freeDraws ∧ u.trunk.switch = s.trunk.switch ∧
    u.trunk.sending = s.trunk.sending ∧ u.tb.period = s.tb.period ∧ u.framer.framed = s.framer.framed ∧
    u.guard.thresholds = s.guard.thresholds ∧ u.trig.settings = s.trig.settings ∧
    u.trig.filtered = s.trig.filtered := by
  simp only [execRoundBoundary, Host.Outcome.next.injEq] at h
  subst h
  (repeat' split) <;> simp

theorem execJoiningTimeout_frame (s : State) {u : State} (h : execJoiningTimeout s = .next u) :
    u.powered = s.powered ∧ u.pins = s.pins ∧ u.clock = s.clock ∧ u.framer = s.framer ∧
    u.rollCall = s.rollCall ∧ u.mem = s.mem ∧ u.frame = s.frame ∧ u.service = s.service ∧ u.setup = s.setup ∧
    u.settings = s.settings ∧ u.snapshots = s.snapshots ∧ u.pending = s.pending ∧
    u.freeDraws = s.freeDraws ∧
    u.trunk.switch = s.trunk.switch ∧ u.trunk.sending = s.trunk.sending ∧ u.tb.period = s.tb.period ∧
    u.guard.thresholds = s.guard.thresholds ∧ u.trig.settings = s.trig.settings ∧
    u.trig.filtered = s.trig.filtered := by
  simp only [execJoiningTimeout, Host.Outcome.next.injEq] at h
  subst h
  (repeat' split) <;> simp

theorem execRollCallStart_frame (s : State) {u : State} (h : execRollCallStart s = .next u) :
    u.powered = s.powered ∧ u.pins = s.pins ∧ u.station = s.station ∧ u.progress = s.progress ∧
    u.roster = s.roster ∧ u.mem = s.mem ∧ u.trig = s.trig ∧ u.guard = s.guard ∧ u.frame = s.frame ∧
    u.service = s.service ∧ u.setup = s.setup ∧ u.settings = s.settings ∧ u.snapshots = s.snapshots ∧
    u.pending = s.pending ∧ u.trunk.switch = s.trunk.switch ∧ u.trunk.sending = s.trunk.sending ∧
    u.tb.period = s.tb.period ∧ u.framer.framed = s.framer.framed ∧ u.framer.round = s.framer.round ∧
    u.framer.opening = s.framer.opening ∧ u.map.resync = s.map.resync ∧ u.tb.listen = s.tb.listen := by
  simp only [execRollCallStart, Host.Outcome.next.injEq] at h
  subst h
  (repeat' split) <;> simp

theorem execRollCallPosition_frame (pair : PairAt) (s : State) {u : State} (h : execRollCallPosition pair s = .next u) :
    u.powered = s.powered ∧ u.pins = s.pins ∧ u.station = s.station ∧ u.progress = s.progress ∧
    u.rollCall = s.rollCall ∧ u.map = s.map ∧ u.inb = s.inb ∧ u.mem = s.mem ∧ u.trig = s.trig ∧
    u.guard = s.guard ∧ u.frame = s.frame ∧ u.service = s.service ∧ u.setup = s.setup ∧
    u.settings = s.settings ∧ u.snapshots = s.snapshots ∧ u.pending = s.pending ∧
    u.freeDraws = s.freeDraws ∧
    u.trunk.switch = s.trunk.switch ∧ u.tb.period = s.tb.period ∧ u.framer.framed = s.framer.framed ∧
    u.framer.round = s.framer.round ∧ u.framer.opening = s.framer.opening ∧ u.tb.listen = s.tb.listen := by
  simp only [execRollCallPosition, Host.Outcome.next.injEq] at h
  subst h
  (repeat' split) <;> simp

theorem execLaneStart_frame (l : Lane) (pair : PairAt) (s : State) {u : State} (h : execLaneStart l pair s = .next u) :
    u.powered = s.powered ∧ u.pins = s.pins ∧ u.station = s.station ∧ u.progress = s.progress ∧
    u.roster = s.roster ∧ u.rollCall = s.rollCall ∧ u.map = s.map ∧ u.inb = s.inb ∧ u.mem = s.mem ∧
    u.trig = s.trig ∧ u.guard = s.guard ∧ u.frame = s.frame ∧ u.service = s.service ∧ u.setup = s.setup ∧
    u.settings = s.settings ∧ u.snapshots = s.snapshots ∧ u.pending = s.pending ∧
    u.freeDraws = s.freeDraws ∧
    u.trunk.switch = s.trunk.switch ∧ u.tb.period = s.tb.period ∧ u.framer.framed = s.framer.framed ∧
    u.framer.round = s.framer.round ∧ u.framer.opening = s.framer.opening ∧ u.tb.listen = s.tb.listen := by
  simp only [execLaneStart, Host.Outcome.next.injEq] at h
  subst h
  (repeat' split) <;> simp

theorem execContentionOpportunity_frame (k : Fin 4) (rival : Option ArbKey) (s : State) {u : State} (h : execContentionOpportunity k rival s = .next u) :
    u.powered = s.powered ∧ u.pins = s.pins ∧ u.station = s.station ∧ u.progress = s.progress ∧
    u.roster = s.roster ∧ u.rollCall = s.rollCall ∧ u.map = s.map ∧ u.inb = s.inb ∧ u.mem = s.mem ∧
    u.trig = s.trig ∧ u.guard = s.guard ∧ u.frame = s.frame ∧ u.service = s.service ∧ u.setup = s.setup ∧
    u.settings = s.settings ∧ u.snapshots = s.snapshots ∧ u.pending = s.pending ∧
    u.freeDraws = s.freeDraws ∧
    u.trunk.switch = s.trunk.switch ∧ u.tb.period = s.tb.period ∧ u.framer.framed = s.framer.framed ∧
    u.framer.round = s.framer.round ∧ u.framer.opening = s.framer.opening ∧ u.tb.listen = s.tb.listen := by
  simp only [execContentionOpportunity, Host.Outcome.next.injEq] at h
  subst h
  (repeat' split) <;> simp

theorem execQuietGapEnd_frame (rival : Option ArbKey) (s : State) {u : State} (h : execQuietGapEnd rival s = .next u) :
    u.powered = s.powered ∧ u.pins = s.pins ∧ u.framer = s.framer ∧ u.station = s.station ∧
    u.progress = s.progress ∧ u.roster = s.roster ∧ u.rollCall = s.rollCall ∧ u.map = s.map ∧ u.inb = s.inb ∧
    u.mem = s.mem ∧ u.trig = s.trig ∧ u.guard = s.guard ∧ u.frame = s.frame ∧ u.service = s.service ∧
    u.setup = s.setup ∧ u.settings = s.settings ∧ u.snapshots = s.snapshots ∧ u.pending = s.pending ∧
    u.freeDraws = s.freeDraws ∧
    u.trunk.switch = s.trunk.switch ∧ u.tb.period = s.tb.period ∧ u.tb.listen = s.tb.listen := by
  simp only [execQuietGapEnd, Host.Outcome.next.injEq] at h
  subst h
  (repeat' split) <;> simp

theorem execReadBackFailed_frame (s : State) {u : State} (h : execReadBackFailed s = .next u) :
    u.powered = s.powered ∧ u.pins = s.pins ∧ u.clock = s.clock ∧ u.rollCall = s.rollCall ∧ u.mem = s.mem ∧
    u.frame = s.frame ∧ u.service = s.service ∧ u.setup = s.setup ∧ u.settings = s.settings ∧
    u.pending = s.pending ∧ u.trunk.switch = s.trunk.switch ∧ u.tb.period = s.tb.period ∧
    u.framer.round = s.framer.round ∧ u.framer.opening = s.framer.opening ∧
    u.guard.thresholds = s.guard.thresholds ∧ u.trig.settings = s.trig.settings ∧
    u.trig.filtered = s.trig.filtered := by
  simp only [execReadBackFailed, Host.Outcome.next.injEq] at h
  subst h
  (repeat' split) <;> simp

theorem execDriveLimitCutOff_frame (s : State) {u : State} (h : execDriveLimitCutOff s = .next u) :
    u.powered = s.powered ∧ u.pins = s.pins ∧ u.rollCall = s.rollCall ∧ u.mem = s.mem ∧ u.frame = s.frame ∧
    u.service = s.service ∧ u.setup = s.setup ∧ u.settings = s.settings ∧ u.pending = s.pending ∧
    u.trunk.switch = s.trunk.switch ∧ u.tb.period = s.tb.period ∧ u.framer.round = s.framer.round ∧
    u.framer.opening = s.framer.opening ∧ u.guard.thresholds = s.guard.thresholds ∧
    u.trig.settings = s.trig.settings ∧ u.trig.filtered = s.trig.filtered := by
  simp only [execDriveLimitCutOff, Host.Outcome.next.injEq] at h
  subst h
  (repeat' split) <;> simp

theorem execRepeaterCutOff_frame (s : State) {u : State} (h : execRepeaterCutOff s = .next u) :
    u.powered = s.powered ∧ u.pins = s.pins ∧ u.clock = s.clock ∧ u.framer = s.framer ∧ u.station = s.station ∧
    u.progress = s.progress ∧ u.roster = s.roster ∧ u.rollCall = s.rollCall ∧ u.map = s.map ∧ u.inb = s.inb ∧
    u.mem = s.mem ∧ u.trig = s.trig ∧ u.frame = s.frame ∧ u.service = s.service ∧ u.setup = s.setup ∧
    u.settings = s.settings ∧ u.snapshots = s.snapshots ∧ u.pending = s.pending ∧
    u.freeDraws = s.freeDraws ∧
    u.trunk.switch = s.trunk.switch ∧ u.trunk.sending = s.trunk.sending ∧ u.tb.period = s.tb.period ∧
    u.guard.interval = s.guard.interval ∧ u.guard.thresholds = s.guard.thresholds ∧ u.tb.listen = s.tb.listen := by
  simp only [execRepeaterCutOff, Host.Outcome.next.injEq] at h
  subst h
  (repeat' split) <;> simp

theorem execMissedMark_frame (s : State) {u : State} (h : execMissedMark s = .next u) :
    u.powered = s.powered ∧ u.pins = s.pins ∧ u.mem = s.mem ∧ u.frame = s.frame ∧ u.service = s.service ∧
    u.setup = s.setup ∧ u.settings = s.settings ∧ u.pending = s.pending ∧
    u.freeDraws = s.freeDraws ∧ u.trunk.switch = s.trunk.switch ∧
    u.trunk.sending = s.trunk.sending ∧ u.tb.period = s.tb.period ∧ u.framer.framed = s.framer.framed ∧
    u.guard.thresholds = s.guard.thresholds ∧ u.trig.settings = s.trig.settings ∧
    u.trig.filtered = s.trig.filtered := by
  simp only [execMissedMark, Host.Outcome.next.injEq] at h
  subst h
  (repeat' split) <;> simp

theorem execMarkTimeout_frame (s : State) {u : State} (h : execMarkTimeout s = .next u) :
    u.powered = s.powered ∧ u.pins = s.pins ∧ u.rollCall = s.rollCall ∧ u.mem = s.mem ∧ u.frame = s.frame ∧
    u.service = s.service ∧ u.setup = s.setup ∧ u.settings = s.settings ∧ u.pending = s.pending ∧
    u.trunk.switch = s.trunk.switch ∧ u.trunk.sending = s.trunk.sending ∧ u.tb.period = s.tb.period ∧
    u.framer.round = s.framer.round ∧ u.framer.opening = s.framer.opening ∧
    u.guard.thresholds = s.guard.thresholds ∧ u.trig.settings = s.trig.settings ∧
    u.trig.filtered = s.trig.filtered := by
  simp only [execMarkTimeout, Host.Outcome.next.injEq] at h
  subst h
  (repeat' split) <;> simp

theorem execBackoffExpiry_frame (s : State) {u : State} (h : execBackoffExpiry s = .next u) :
    u.powered = s.powered ∧ u.pins = s.pins ∧ u.framer = s.framer ∧ u.station = s.station ∧
    u.progress = s.progress ∧ u.roster = s.roster ∧ u.rollCall = s.rollCall ∧ u.map = s.map ∧ u.inb = s.inb ∧
    u.mem = s.mem ∧ u.trig = s.trig ∧ u.guard = s.guard ∧ u.frame = s.frame ∧ u.service = s.service ∧
    u.setup = s.setup ∧ u.settings = s.settings ∧ u.snapshots = s.snapshots ∧ u.pending = s.pending ∧
    u.freeDraws = s.freeDraws ∧
    u.trunk.switch = s.trunk.switch ∧ u.trunk.sending = s.trunk.sending ∧ u.tb.period = s.tb.period ∧
    u.tb.listen = s.tb.listen := by
  simp only [execBackoffExpiry, Host.Outcome.next.injEq] at h
  subst h
  (repeat' split) <;> simp

theorem execUnframedSourceTimeout_frame (s : State) {u : State} (h : execUnframedSourceTimeout s = .next u) :
    u.powered = s.powered ∧ u.pins = s.pins ∧ u.framer = s.framer ∧ u.station = s.station ∧
    u.progress = s.progress ∧ u.roster = s.roster ∧ u.rollCall = s.rollCall ∧ u.map = s.map ∧ u.inb = s.inb ∧
    u.mem = s.mem ∧ u.trig = s.trig ∧ u.guard = s.guard ∧ u.frame = s.frame ∧ u.service = s.service ∧
    u.setup = s.setup ∧ u.settings = s.settings ∧ u.snapshots = s.snapshots ∧ u.pending = s.pending ∧
    u.freeDraws = s.freeDraws ∧
    u.trunk.switch = s.trunk.switch ∧ u.trunk.sending = s.trunk.sending ∧ u.tb.period = s.tb.period ∧
    u.tb.listen = s.tb.listen := by
  simp only [execUnframedSourceTimeout, Host.Outcome.next.injEq] at h
  subst h
  (repeat' split) <;> simp

theorem execEmptyTrunkListenExpiry_frame (s : State) {u : State} (h : execEmptyTrunkListenExpiry s = .next u) :
    u.powered = s.powered ∧ u.pins = s.pins ∧ u.framer = s.framer ∧ u.roster = s.roster ∧
    u.rollCall = s.rollCall ∧ u.map = s.map ∧ u.inb = s.inb ∧ u.mem = s.mem ∧ u.trig = s.trig ∧
    u.guard = s.guard ∧ u.frame = s.frame ∧ u.service = s.service ∧ u.setup = s.setup ∧
    u.settings = s.settings ∧ u.snapshots = s.snapshots ∧ u.pending = s.pending ∧
    u.freeDraws = s.freeDraws ∧
    u.trunk.switch = s.trunk.switch ∧ u.trunk.sending = s.trunk.sending ∧ u.tb.period = s.tb.period := by
  simp only [execEmptyTrunkListenExpiry, Host.Outcome.next.injEq] at h
  subst h
  (repeat' split) <;> simp

theorem execEmptyTrunkAttemptTimeout_frame (s : State) {u : State} (h : execEmptyTrunkAttemptTimeout s = .next u) :
    u.powered = s.powered ∧ u.pins = s.pins ∧ u.framer = s.framer ∧ u.rollCall = s.rollCall ∧ u.mem = s.mem ∧
    u.frame = s.frame ∧ u.service = s.service ∧ u.setup = s.setup ∧ u.settings = s.settings ∧
    u.snapshots = s.snapshots ∧ u.pending = s.pending ∧
    u.freeDraws = s.freeDraws ∧ u.trunk.switch = s.trunk.switch ∧
    u.trunk.sending = s.trunk.sending ∧ u.tb.period = s.tb.period ∧ u.guard.thresholds = s.guard.thresholds ∧
    u.trig.settings = s.trig.settings ∧ u.trig.filtered = s.trig.filtered := by
  simp only [execEmptyTrunkAttemptTimeout, Host.Outcome.next.injEq] at h
  subst h
  (repeat' split) <;> simp

theorem execLeavingTimeout_frame (s : State) {u : State} (h : execLeavingTimeout s = .next u) :
    u.powered = s.powered ∧ u.pins = s.pins ∧ u.framer = s.framer ∧ u.rollCall = s.rollCall ∧ u.mem = s.mem ∧
    u.frame = s.frame ∧ u.service = s.service ∧ u.setup = s.setup ∧ u.settings = s.settings ∧
    u.snapshots = s.snapshots ∧ u.pending = s.pending ∧
    u.freeDraws = s.freeDraws ∧ u.trunk.switch = s.trunk.switch ∧
    u.trunk.sending = s.trunk.sending ∧ u.tb.period = s.tb.period ∧ u.guard.thresholds = s.guard.thresholds ∧
    u.trig.settings = s.trig.settings ∧ u.trig.filtered = s.trig.filtered := by
  simp only [execLeavingTimeout, Host.Outcome.next.injEq] at h
  subst h
  (repeat' split) <;> simp

theorem execGuardPeriodEnd_frame (s : State) {u : State} (h : execGuardPeriodEnd s = .next u) :
    u.powered = s.powered ∧ u.pins = s.pins ∧ u.framer = s.framer ∧ u.roster = s.roster ∧
    u.rollCall = s.rollCall ∧ u.inb = s.inb ∧ u.mem = s.mem ∧ u.trig = s.trig ∧ u.frame = s.frame ∧
    u.service = s.service ∧ u.setup = s.setup ∧ u.settings = s.settings ∧ u.snapshots = s.snapshots ∧
    u.pending = s.pending ∧
    u.freeDraws = s.freeDraws ∧ u.trunk.switch = s.trunk.switch ∧ u.trunk.sending = s.trunk.sending ∧
    u.tb.period = s.tb.period ∧ u.guard.thresholds = s.guard.thresholds ∧ u.map.resync = s.map.resync ∧
    u.map.epoch = s.map.epoch := by
  simp only [execGuardPeriodEnd, Host.Outcome.next.injEq] at h
  subst h
  (repeat' split) <;> simp

theorem execTriggerLineChange_frame (levels : BitVec 4) (s : State) {u : State} (h : execTriggerLineChange levels s = .next u) :
    u.powered = s.powered ∧ u.clock = s.clock ∧ u.framer = s.framer ∧ u.station = s.station ∧
    u.progress = s.progress ∧ u.roster = s.roster ∧ u.rollCall = s.rollCall ∧ u.map = s.map ∧ u.mem = s.mem ∧
    u.guard = s.guard ∧ u.frame = s.frame ∧ u.service = s.service ∧ u.setup = s.setup ∧
    u.settings = s.settings ∧ u.snapshots = s.snapshots ∧ u.pending = s.pending ∧
    u.freeDraws = s.freeDraws ∧
    u.trunk.switch = s.trunk.switch ∧ u.trunk.sending = s.trunk.sending ∧ u.tb.period = s.tb.period ∧
    u.tb.listen = s.tb.listen ∧ u.trig.settings = s.trig.settings := by
  simp only [execTriggerLineChange, Host.Outcome.next.injEq] at h
  subst h
  (repeat' split) <;> simp

theorem execFilterTimeExpiry_frame (s : State) {u : State} (h : execFilterTimeExpiry s = .next u) :
    u.powered = s.powered ∧ u.pins = s.pins ∧ u.framer = s.framer ∧ u.station = s.station ∧
    u.progress = s.progress ∧ u.roster = s.roster ∧ u.rollCall = s.rollCall ∧ u.map = s.map ∧ u.mem = s.mem ∧
    u.guard = s.guard ∧ u.frame = s.frame ∧ u.service = s.service ∧ u.setup = s.setup ∧
    u.settings = s.settings ∧ u.snapshots = s.snapshots ∧ u.pending = s.pending ∧
    u.freeDraws = s.freeDraws ∧
    u.trunk.switch = s.trunk.switch ∧ u.trunk.sending = s.trunk.sending ∧ u.tb.period = s.tb.period ∧
    u.tb.listen = s.tb.listen ∧ u.trig.settings = s.trig.settings := by
  simp only [execFilterTimeExpiry, Host.Outcome.next.injEq] at h
  subst h
  (repeat' split) <;> simp

theorem execBlankingEnd_frame (s : State) {u : State} (h : execBlankingEnd s = .next u) :
    u.powered = s.powered ∧ u.pins = s.pins ∧ u.framer = s.framer ∧ u.station = s.station ∧
    u.progress = s.progress ∧ u.roster = s.roster ∧ u.rollCall = s.rollCall ∧ u.map = s.map ∧ u.inb = s.inb ∧
    u.mem = s.mem ∧ u.trig = s.trig ∧ u.guard = s.guard ∧ u.frame = s.frame ∧ u.service = s.service ∧
    u.setup = s.setup ∧ u.settings = s.settings ∧ u.snapshots = s.snapshots ∧ u.pending = s.pending ∧
    u.freeDraws = s.freeDraws ∧
    u.trunk.switch = s.trunk.switch ∧ u.trunk.sending = s.trunk.sending ∧ u.tb.period = s.tb.period ∧
    u.tb.listen = s.tb.listen := by
  simp only [execBlankingEnd, Host.Outcome.next.injEq] at h
  subst h
  (repeat' split) <;> simp

theorem execPush_frame (ch : Channel) (w : Word) (s : State) {u : State} (h : execPush ch w s = .next u) :
    u.powered = s.powered ∧ u.pins = s.pins ∧ u.clock = s.clock ∧ u.trunk = s.trunk ∧ u.framer = s.framer ∧
    u.tb = s.tb ∧ u.station = s.station ∧ u.progress = s.progress ∧ u.roster = s.roster ∧
    u.rollCall = s.rollCall ∧ u.map = s.map ∧ u.inb = s.inb ∧ u.mem = s.mem ∧ u.trig = s.trig ∧
    u.guard = s.guard ∧ u.service = s.service ∧ u.setup = s.setup ∧ u.settings = s.settings ∧
    u.snapshots = s.snapshots ∧ u.flags = s.flags ∧ u.pending = s.pending ∧
    u.freeDraws = s.freeDraws := by
  simp only [execPush, channelRequest, Host.Outcome.next.injEq] at h
  subst h
  (repeat' split) <;> simp

theorem execOpenOut_frame (ch : Channel) (s : State) {u : State} (h : execOpenOut ch s = .next u) :
    u.powered = s.powered ∧ u.pins = s.pins ∧ u.clock = s.clock ∧ u.framer = s.framer ∧ u.tb = s.tb ∧
    u.station = s.station ∧ u.progress = s.progress ∧ u.roster = s.roster ∧ u.rollCall = s.rollCall ∧
    u.map = s.map ∧ u.inb = s.inb ∧ u.mem = s.mem ∧ u.trig = s.trig ∧ u.guard = s.guard ∧
    u.service = s.service ∧ u.setup = s.setup ∧ u.settings = s.settings ∧ u.snapshots = s.snapshots ∧
    u.flags = s.flags ∧ u.pending = s.pending ∧
    u.freeDraws = s.freeDraws ∧ u.trunk.switch = s.trunk.switch ∧
    u.trunk.sending = s.trunk.sending := by
  simp only [execOpenOut, channelRequest, Host.Outcome.next.injEq] at h
  subst h
  (repeat' split) <;> simp

theorem execCloseNow_frame (ch : Channel) (s : State) {u : State} (h : execCloseNow ch s = .next u) :
    u.powered = s.powered ∧ u.pins = s.pins ∧ u.clock = s.clock ∧ u.framer = s.framer ∧ u.tb = s.tb ∧
    u.station = s.station ∧ u.progress = s.progress ∧ u.roster = s.roster ∧ u.rollCall = s.rollCall ∧
    u.map = s.map ∧ u.inb = s.inb ∧ u.mem = s.mem ∧ u.trig = s.trig ∧ u.guard = s.guard ∧
    u.service = s.service ∧ u.setup = s.setup ∧ u.settings = s.settings ∧ u.snapshots = s.snapshots ∧
    u.pending = s.pending ∧
    u.freeDraws = s.freeDraws ∧ u.trunk.switch = s.trunk.switch ∧ u.trunk.sending = s.trunk.sending := by
  simp only [execCloseNow, channelRequest, Host.Outcome.next.injEq] at h
  subst h
  (repeat' split) <;> simp

theorem execCloseDrain_frame (ch : Channel) (s : State) {u : State} (h : execCloseDrain ch s = .next u) :
    u.powered = s.powered ∧ u.pins = s.pins ∧ u.clock = s.clock ∧ u.framer = s.framer ∧ u.tb = s.tb ∧
    u.station = s.station ∧ u.progress = s.progress ∧ u.roster = s.roster ∧ u.rollCall = s.rollCall ∧
    u.map = s.map ∧ u.inb = s.inb ∧ u.mem = s.mem ∧ u.trig = s.trig ∧ u.guard = s.guard ∧
    u.service = s.service ∧ u.setup = s.setup ∧ u.settings = s.settings ∧ u.snapshots = s.snapshots ∧
    u.pending = s.pending ∧
    u.freeDraws = s.freeDraws ∧ u.trunk.switch = s.trunk.switch ∧ u.trunk.sending = s.trunk.sending := by
  simp only [execCloseDrain, channelRequest, Host.Outcome.next.injEq] at h
  subst h
  (repeat' split) <;> simp

theorem execOpenIn_frame (ch : Channel) (s : State) {u : State} (h : execOpenIn ch s = .next u) :
    u.powered = s.powered ∧ u.pins = s.pins ∧ u.clock = s.clock ∧ u.trunk = s.trunk ∧ u.framer = s.framer ∧
    u.tb = s.tb ∧ u.station = s.station ∧ u.progress = s.progress ∧ u.roster = s.roster ∧
    u.rollCall = s.rollCall ∧ u.map = s.map ∧ u.out = s.out ∧ u.mem = s.mem ∧ u.trig = s.trig ∧
    u.guard = s.guard ∧ u.service = s.service ∧ u.setup = s.setup ∧ u.settings = s.settings ∧
    u.snapshots = s.snapshots ∧ u.flags = s.flags ∧ u.pending = s.pending ∧
    u.freeDraws = s.freeDraws := by
  simp only [execOpenIn, channelRequest, Host.Outcome.next.injEq] at h
  subst h
  (repeat' split) <;> simp

theorem execCloseIn_frame (ch : Channel) (s : State) {u : State} (h : execCloseIn ch s = .next u) :
    u.powered = s.powered ∧ u.pins = s.pins ∧ u.clock = s.clock ∧ u.trunk = s.trunk ∧ u.framer = s.framer ∧
    u.tb = s.tb ∧ u.station = s.station ∧ u.progress = s.progress ∧ u.roster = s.roster ∧
    u.rollCall = s.rollCall ∧ u.map = s.map ∧ u.out = s.out ∧ u.mem = s.mem ∧ u.trig = s.trig ∧
    u.guard = s.guard ∧ u.service = s.service ∧ u.setup = s.setup ∧ u.settings = s.settings ∧
    u.snapshots = s.snapshots ∧ u.flags = s.flags ∧ u.pending = s.pending ∧
    u.freeDraws = s.freeDraws := by
  simp only [execCloseIn, channelRequest, Host.Outcome.next.injEq] at h
  subst h
  (repeat' split) <;> simp

theorem execHoldIn_frame (ch : Channel) (s : State) {u : State} (h : execHoldIn ch s = .next u) :
    u.powered = s.powered ∧ u.pins = s.pins ∧ u.clock = s.clock ∧ u.trunk = s.trunk ∧ u.framer = s.framer ∧
    u.tb = s.tb ∧ u.station = s.station ∧ u.progress = s.progress ∧ u.roster = s.roster ∧
    u.rollCall = s.rollCall ∧ u.map = s.map ∧ u.out = s.out ∧ u.mem = s.mem ∧ u.trig = s.trig ∧
    u.guard = s.guard ∧ u.service = s.service ∧ u.setup = s.setup ∧ u.settings = s.settings ∧
    u.snapshots = s.snapshots ∧ u.flags = s.flags ∧ u.pending = s.pending ∧
    u.freeDraws = s.freeDraws := by
  simp only [execHoldIn, channelRequest, Host.Outcome.next.injEq] at h
  subst h
  (repeat' split) <;> simp

theorem execResumeIn_frame (ch : Channel) (s : State) {u : State} (h : execResumeIn ch s = .next u) :
    u.powered = s.powered ∧ u.pins = s.pins ∧ u.clock = s.clock ∧ u.trunk = s.trunk ∧ u.framer = s.framer ∧
    u.tb = s.tb ∧ u.station = s.station ∧ u.progress = s.progress ∧ u.roster = s.roster ∧
    u.rollCall = s.rollCall ∧ u.map = s.map ∧ u.out = s.out ∧ u.mem = s.mem ∧ u.trig = s.trig ∧
    u.guard = s.guard ∧ u.service = s.service ∧ u.setup = s.setup ∧ u.settings = s.settings ∧
    u.snapshots = s.snapshots ∧ u.flags = s.flags ∧ u.pending = s.pending ∧
    u.freeDraws = s.freeDraws := by
  simp only [execResumeIn, channelRequest, Host.Outcome.next.injEq] at h
  subst h
  (repeat' split) <;> simp

theorem execArmIn_frame (ch : Channel) (start : WindowStart) (stop : WindowStop) (s : State) {u : State} (h : execArmIn ch start stop s = .next u) :
    u.powered = s.powered ∧ u.pins = s.pins ∧ u.clock = s.clock ∧ u.trunk = s.trunk ∧ u.framer = s.framer ∧
    u.tb = s.tb ∧ u.station = s.station ∧ u.progress = s.progress ∧ u.roster = s.roster ∧
    u.rollCall = s.rollCall ∧ u.map = s.map ∧ u.out = s.out ∧ u.mem = s.mem ∧ u.trig = s.trig ∧
    u.guard = s.guard ∧ u.service = s.service ∧ u.setup = s.setup ∧ u.settings = s.settings ∧
    u.snapshots = s.snapshots ∧ u.flags = s.flags ∧ u.pending = s.pending ∧
    u.freeDraws = s.freeDraws := by
  simp only [execArmIn, channelRequest, Host.Outcome.next.injEq] at h
  subst h
  (repeat' split) <;> simp

theorem execDisarmIn_frame (ch : Channel) (s : State) {u : State} (h : execDisarmIn ch s = .next u) :
    u.powered = s.powered ∧ u.pins = s.pins ∧ u.clock = s.clock ∧ u.trunk = s.trunk ∧ u.framer = s.framer ∧
    u.tb = s.tb ∧ u.station = s.station ∧ u.progress = s.progress ∧ u.roster = s.roster ∧
    u.rollCall = s.rollCall ∧ u.map = s.map ∧ u.out = s.out ∧ u.mem = s.mem ∧ u.trig = s.trig ∧
    u.guard = s.guard ∧ u.service = s.service ∧ u.setup = s.setup ∧ u.settings = s.settings ∧
    u.snapshots = s.snapshots ∧ u.flags = s.flags ∧ u.pending = s.pending ∧
    u.freeDraws = s.freeDraws := by
  simp only [execDisarmIn, channelRequest, Host.Outcome.next.injEq] at h
  subst h
  (repeat' split) <;> simp

theorem execReadDelivery_frame (ch : Channel) (s : State) {u : State} (h : execReadDelivery ch s = .next u) :
    u.powered = s.powered ∧ u.pins = s.pins ∧ u.clock = s.clock ∧ u.trunk = s.trunk ∧ u.framer = s.framer ∧
    u.tb = s.tb ∧ u.station = s.station ∧ u.progress = s.progress ∧ u.roster = s.roster ∧
    u.rollCall = s.rollCall ∧ u.map = s.map ∧ u.out = s.out ∧ u.mem = s.mem ∧ u.trig = s.trig ∧
    u.guard = s.guard ∧ u.service = s.service ∧ u.setup = s.setup ∧ u.settings = s.settings ∧
    u.snapshots = s.snapshots ∧ u.flags = s.flags ∧ u.pending = s.pending ∧
    u.freeDraws = s.freeDraws := by
  simp only [execReadDelivery, channelRequest, Host.Outcome.next.injEq] at h
  subst h
  (repeat' split) <;> simp

theorem execReadMemory_frame (page offset : Byte) (count : BitVec 16) (s : State) {u : State} (h : execReadMemory page offset count s = .next u) :
    u.powered = s.powered ∧ u.pins = s.pins ∧ u.clock = s.clock ∧ u.trunk = s.trunk ∧ u.framer = s.framer ∧
    u.tb = s.tb ∧ u.station = s.station ∧ u.progress = s.progress ∧ u.roster = s.roster ∧
    u.rollCall = s.rollCall ∧ u.map = s.map ∧ u.out = s.out ∧ u.inb = s.inb ∧ u.mem = s.mem ∧ u.trig = s.trig ∧
    u.guard = s.guard ∧ u.service = s.service ∧ u.setup = s.setup ∧ u.settings = s.settings ∧
    u.snapshots = s.snapshots ∧ u.flags = s.flags ∧ u.pending = s.pending ∧
    u.freeDraws = s.freeDraws := by
  simp only [execReadMemory, Host.Outcome.next.injEq] at h
  subst h
  (repeat' split) <;> simp

theorem execTakePair_frame (ch : Channel) (s : State) {u : State} (h : execTakePair ch s = .next u) :
    u.powered = s.powered ∧ u.pins = s.pins ∧ u.clock = s.clock ∧ u.trunk = s.trunk ∧ u.framer = s.framer ∧
    u.tb = s.tb ∧ u.station = s.station ∧ u.progress = s.progress ∧ u.roster = s.roster ∧
    u.rollCall = s.rollCall ∧ u.map = s.map ∧ u.out = s.out ∧ u.mem = s.mem ∧ u.trig = s.trig ∧
    u.guard = s.guard ∧ u.service = s.service ∧ u.setup = s.setup ∧ u.settings = s.settings ∧
    u.snapshots = s.snapshots ∧ u.flags = s.flags ∧ u.pending = s.pending ∧
    u.freeDraws = s.freeDraws := by
  simp only [execTakePair, channelRequest, Host.Outcome.next.injEq] at h
  subst h
  (repeat' split) <;> simp

theorem execReturnPair_frame (ch : Channel) (s : State) {u : State} (h : execReturnPair ch s = .next u) :
    u.powered = s.powered ∧ u.pins = s.pins ∧ u.clock = s.clock ∧ u.trunk = s.trunk ∧ u.framer = s.framer ∧
    u.tb = s.tb ∧ u.station = s.station ∧ u.progress = s.progress ∧ u.roster = s.roster ∧
    u.rollCall = s.rollCall ∧ u.map = s.map ∧ u.out = s.out ∧ u.mem = s.mem ∧ u.trig = s.trig ∧
    u.guard = s.guard ∧ u.service = s.service ∧ u.setup = s.setup ∧ u.settings = s.settings ∧
    u.snapshots = s.snapshots ∧ u.flags = s.flags ∧ u.pending = s.pending ∧
    u.freeDraws = s.freeDraws := by
  simp only [execReturnPair, channelRequest, Host.Outcome.next.injEq] at h
  subst h
  (repeat' split) <;> simp

theorem execReadChannel_frame (d : Direction) (ch : Channel) (s : State) {u : State} (h : execReadChannel d ch s = .next u) :
    u.powered = s.powered ∧ u.pins = s.pins ∧ u.clock = s.clock ∧ u.trunk = s.trunk ∧ u.framer = s.framer ∧
    u.tb = s.tb ∧ u.station = s.station ∧ u.progress = s.progress ∧ u.roster = s.roster ∧
    u.rollCall = s.rollCall ∧ u.map = s.map ∧ u.out = s.out ∧ u.inb = s.inb ∧ u.mem = s.mem ∧ u.trig = s.trig ∧
    u.guard = s.guard ∧ u.service = s.service ∧ u.setup = s.setup ∧ u.settings = s.settings ∧
    u.snapshots = s.snapshots ∧ u.flags = s.flags ∧ u.pending = s.pending ∧
    u.freeDraws = s.freeDraws := by
  simp only [execReadChannel, channelRequest, Host.Outcome.next.injEq] at h
  subst h
  (repeat' split) <;> simp

theorem execUnknownFrameRequest_frame (frame : List Byte) (s : State) {u : State} (h : execUnknownFrameRequest frame s = .next u) :
    u.powered = s.powered ∧ u.pins = s.pins ∧ u.clock = s.clock ∧ u.trunk = s.trunk ∧ u.framer = s.framer ∧
    u.tb = s.tb ∧ u.station = s.station ∧ u.progress = s.progress ∧ u.roster = s.roster ∧
    u.rollCall = s.rollCall ∧ u.map = s.map ∧ u.out = s.out ∧ u.inb = s.inb ∧ u.mem = s.mem ∧ u.trig = s.trig ∧
    u.guard = s.guard ∧ u.service = s.service ∧ u.setup = s.setup ∧ u.settings = s.settings ∧
    u.snapshots = s.snapshots ∧ u.flags = s.flags ∧ u.pending = s.pending ∧
    u.freeDraws = s.freeDraws := by
  simp only [execUnknownFrameRequest, Host.Outcome.next.injEq] at h
  subst h
  unfold frameRequest refuseRequest
  (repeat' split) <;> simp

theorem execResultCollected_frame (s : State) {u : State} (h : execResultCollected s = .next u) :
    u.powered = s.powered ∧ u.pins = s.pins ∧ u.clock = s.clock ∧ u.trunk = s.trunk ∧ u.framer = s.framer ∧
    u.tb = s.tb ∧ u.station = s.station ∧ u.progress = s.progress ∧ u.roster = s.roster ∧
    u.rollCall = s.rollCall ∧ u.map = s.map ∧ u.out = s.out ∧ u.inb = s.inb ∧ u.mem = s.mem ∧ u.trig = s.trig ∧
    u.guard = s.guard ∧ u.service = s.service ∧ u.setup = s.setup ∧ u.settings = s.settings ∧
    u.snapshots = s.snapshots ∧ u.flags = s.flags ∧ u.pending = s.pending ∧
    u.freeDraws = s.freeDraws := by
  simp only [execResultCollected, Host.Outcome.next.injEq] at h
  subst h
  (repeat' split) <;> simp

theorem execServiceReadLive_frame (c : RecordClass) (i : Byte) (s : State) {u : State} (h : execServiceReadLive c i s = .next u) :
    u.powered = s.powered ∧ u.pins = s.pins ∧ u.clock = s.clock ∧ u.trunk = s.trunk ∧ u.framer = s.framer ∧
    u.tb = s.tb ∧ u.station = s.station ∧ u.progress = s.progress ∧ u.roster = s.roster ∧
    u.rollCall = s.rollCall ∧ u.map = s.map ∧ u.out = s.out ∧ u.inb = s.inb ∧ u.mem = s.mem ∧ u.trig = s.trig ∧
    u.guard = s.guard ∧ u.frame = s.frame ∧ u.setup = s.setup ∧ u.settings = s.settings ∧
    u.snapshots = s.snapshots ∧ u.flags = s.flags ∧ u.pending = s.pending ∧
    u.freeDraws = s.freeDraws := by
  simp only [execServiceReadLive, Host.Outcome.next.injEq] at h
  subst h
  (repeat' split) <;> simp

theorem execServiceReadSnapshot_frame (c : RecordClass) (i : Byte) (s : State) {u : State} (h : execServiceReadSnapshot c i s = .next u) :
    u.powered = s.powered ∧ u.pins = s.pins ∧ u.clock = s.clock ∧ u.trunk = s.trunk ∧ u.framer = s.framer ∧
    u.tb = s.tb ∧ u.station = s.station ∧ u.progress = s.progress ∧ u.roster = s.roster ∧
    u.rollCall = s.rollCall ∧ u.map = s.map ∧ u.out = s.out ∧ u.inb = s.inb ∧ u.mem = s.mem ∧ u.trig = s.trig ∧
    u.guard = s.guard ∧ u.frame = s.frame ∧ u.setup = s.setup ∧ u.settings = s.settings ∧
    u.snapshots = s.snapshots ∧ u.flags = s.flags ∧ u.pending = s.pending ∧
    u.freeDraws = s.freeDraws := by
  simp only [execServiceReadSnapshot, Host.Outcome.next.injEq] at h
  subst h
  (repeat' split) <;> simp

theorem execSnapshot_frame (s : State) {u : State} (h : execSnapshot s = .next u) :
    u.powered = s.powered ∧ u.pins = s.pins ∧ u.clock = s.clock ∧ u.trunk = s.trunk ∧ u.framer = s.framer ∧
    u.tb = s.tb ∧ u.station = s.station ∧ u.progress = s.progress ∧ u.roster = s.roster ∧
    u.rollCall = s.rollCall ∧ u.map = s.map ∧ u.out = s.out ∧ u.inb = s.inb ∧ u.mem = s.mem ∧ u.trig = s.trig ∧
    u.guard = s.guard ∧ u.frame = s.frame ∧ u.setup = s.setup ∧ u.settings = s.settings ∧ u.flags = s.flags ∧
    u.pending = s.pending ∧
    u.freeDraws = s.freeDraws := by
  simp only [execSnapshot, Host.Outcome.next.injEq] at h
  subst h
  (repeat' split) <;> simp

theorem execReadSummary_frame (s : State) {u : State} (h : execReadSummary s = .next u) :
    u.powered = s.powered ∧ u.pins = s.pins ∧ u.clock = s.clock ∧ u.trunk = s.trunk ∧ u.framer = s.framer ∧
    u.tb = s.tb ∧ u.station = s.station ∧ u.progress = s.progress ∧ u.roster = s.roster ∧
    u.rollCall = s.rollCall ∧ u.map = s.map ∧ u.out = s.out ∧ u.inb = s.inb ∧ u.mem = s.mem ∧ u.trig = s.trig ∧
    u.guard = s.guard ∧ u.frame = s.frame ∧ u.setup = s.setup ∧ u.settings = s.settings ∧
    u.snapshots = s.snapshots ∧ u.pending = s.pending ∧
    u.freeDraws = s.freeDraws := by
  simp only [execReadSummary, Host.Outcome.next.injEq] at h
  subst h
  (repeat' split) <;> simp

theorem execRejoin_frame (s : State) {u : State} (h : execRejoin s = .next u) :
    u.powered = s.powered ∧ u.pins = s.pins ∧ u.clock = s.clock ∧ u.framer = s.framer ∧
    u.rollCall = s.rollCall ∧ u.mem = s.mem ∧ u.frame = s.frame ∧ u.setup = s.setup ∧ u.settings = s.settings ∧
    u.snapshots = s.snapshots ∧ u.pending = s.pending ∧
    u.freeDraws = s.freeDraws ∧ u.trunk.switch = s.trunk.switch ∧
    u.trunk.sending = s.trunk.sending ∧ u.tb.period = s.tb.period ∧ u.guard.thresholds = s.guard.thresholds ∧
    u.trig.settings = s.trig.settings ∧ u.trig.filtered = s.trig.filtered := by
  simp only [execRejoin, Host.Outcome.next.injEq] at h
  subst h
  (repeat' split) <;> simp

theorem execLeave_frame (s : State) {u : State} (h : execLeave s = .next u) :
    u.powered = s.powered ∧ u.pins = s.pins ∧ u.clock = s.clock ∧ u.framer = s.framer ∧
    u.rollCall = s.rollCall ∧ u.mem = s.mem ∧ u.frame = s.frame ∧ u.setup = s.setup ∧ u.settings = s.settings ∧
    u.snapshots = s.snapshots ∧ u.pending = s.pending ∧
    u.freeDraws = s.freeDraws ∧ u.trunk.switch = s.trunk.switch ∧
    u.trunk.sending = s.trunk.sending ∧ u.tb.period = s.tb.period ∧ u.guard.thresholds = s.guard.thresholds ∧
    u.trig.settings = s.trig.settings ∧ u.trig.filtered = s.trig.filtered := by
  simp only [execLeave, Host.Outcome.next.injEq] at h
  subst h
  (repeat' split) <;> simp

theorem execClearIsolation_frame (s : State) {u : State} (h : execClearIsolation s = .next u) :
    u.powered = s.powered ∧ u.pins = s.pins ∧ u.clock = s.clock ∧ u.framer = s.framer ∧
    u.rollCall = s.rollCall ∧ u.mem = s.mem ∧ u.frame = s.frame ∧ u.setup = s.setup ∧ u.settings = s.settings ∧
    u.snapshots = s.snapshots ∧ u.pending = s.pending ∧
    u.freeDraws = s.freeDraws ∧ u.trunk.switch = s.trunk.switch ∧
    u.trunk.sending = s.trunk.sending ∧ u.tb.period = s.tb.period ∧ u.trig.settings = s.trig.settings ∧
    u.trig.filtered = s.trig.filtered := by
  simp only [execClearIsolation, Host.Outcome.next.injEq] at h
  subst h
  (repeat' split) <;> simp

theorem execUnknownServiceRequest_frame (frame : List Byte) (s : State) {u : State} (h : execUnknownServiceRequest frame s = .next u) :
    u.powered = s.powered ∧ u.pins = s.pins ∧ u.clock = s.clock ∧ u.trunk = s.trunk ∧ u.framer = s.framer ∧
    u.tb = s.tb ∧ u.station = s.station ∧ u.progress = s.progress ∧ u.roster = s.roster ∧
    u.rollCall = s.rollCall ∧ u.map = s.map ∧ u.out = s.out ∧ u.inb = s.inb ∧ u.mem = s.mem ∧ u.trig = s.trig ∧
    u.guard = s.guard ∧ u.frame = s.frame ∧ u.setup = s.setup ∧ u.settings = s.settings ∧
    u.snapshots = s.snapshots ∧ u.flags = s.flags ∧ u.pending = s.pending ∧
    u.freeDraws = s.freeDraws := by
  simp only [execUnknownServiceRequest, Host.Outcome.next.injEq] at h
  subst h
  unfold serviceRequest refuseService
  (repeat' split) <;> simp

theorem execServiceAnswerSent_frame (s : State) {u : State} (h : execServiceAnswerSent s = .next u) :
    u.powered = s.powered ∧ u.pins = s.pins ∧ u.clock = s.clock ∧ u.trunk = s.trunk ∧ u.framer = s.framer ∧
    u.tb = s.tb ∧ u.station = s.station ∧ u.progress = s.progress ∧ u.roster = s.roster ∧
    u.rollCall = s.rollCall ∧ u.map = s.map ∧ u.out = s.out ∧ u.inb = s.inb ∧ u.mem = s.mem ∧ u.trig = s.trig ∧
    u.guard = s.guard ∧ u.frame = s.frame ∧ u.setup = s.setup ∧ u.settings = s.settings ∧
    u.snapshots = s.snapshots ∧ u.flags = s.flags ∧ u.pending = s.pending ∧
    u.freeDraws = s.freeDraws := by
  simp only [execServiceAnswerSent, Host.Outcome.next.injEq] at h
  subst h
  (repeat' split) <;> simp

end Sys2Proof.Machine
end

