-- ==== Sys2Proof/Laws/Word.lean ====
section
/-! SUPPORT. Reading a bank after each of its operations. -/
namespace Sys2Proof.Bank

variable {n : Nat} {α β : Type}

@[simp] theorem get_set_self (b : Bank n α) (i : Fin n) (a : α) : (b.set i a).get i = a := by
  simp [get, set]

@[simp] theorem get_set_ne (b : Bank n α) {i j : Fin n} (a : α) (h : i ≠ j) : (b.set i a).get j = b.get j := by
  have : i.val ≠ j.val := fun e => h (Fin.ext e)
  simp [get, set, this]

theorem get_set (b : Bank n α) (i j : Fin n) (a : α) : (b.set i a).get j = if i = j then a else b.get j := by
  split
  · next h => subst h; exact get_set_self b i a
  · next h => exact get_set_ne b a h

@[simp] theorem get_fill (a : α) (i : Fin n) : (fill n a).get i = a := by simp [get, fill]

@[simp] theorem get_ofFn (f : Fin n → α) (i : Fin n) : (ofFn f).get i = f i := by simp [get, ofFn]

@[simp] theorem get_map (f : α → β) (b : Bank n α) (i : Fin n) : (b.map f).get i = f (b.get i) := by simp [get, map]

@[simp] theorem get_mapIdx (f : Fin n → α → β) (b : Bank n α) (i : Fin n) : (b.mapIdx f).get i = f i (b.get i) := by
  simp [mapIdx]

/-- Two banks that hold the same things are equal. -/
theorem ext_get {b c : Bank n α} (h : ∀ i, b.get i = c.get i) : b = c := by
  cases b with
  | mk l hl =>
    cases c with
    | mk m hm =>
      have e : l = m := List.ext_getElem (by rw [hl, hm]) (fun k h₁ _ => h ⟨k, by omega⟩)
      subst e
      rfl

@[simp] theorem set_get (b : Bank n α) (i : Fin n) : b.set i (b.get i) = b := by
  apply ext_get
  intro j
  rw [get_set]
  split
  · next h => rw [h]
  · rfl

/-- A thing of the bank's list is a thing with a number. -/
theorem mem_list (b : Bank n α) (a : α) : a ∈ b.list ↔ ∃ i, b.get i = a := by
  constructor
  · intro h
    obtain ⟨k, hk, e⟩ := List.getElem_of_mem h
    exact ⟨⟨k, by rw [← b.length_eq]; exact hk⟩, e⟩
  · rintro ⟨i, e⟩
    rw [← e]
    exact List.getElem_mem _

/-- A test holds of all things of the list exactly when it holds of every number's. -/
theorem all_list (b : Bank n α) (p : α → Bool) : b.list.all p = true ↔ ∀ i, p (b.get i) = true := by
  rw [List.all_eq_true]
  constructor
  · intro h i
    exact h _ ((mem_list b _).mpr ⟨i, rfl⟩)
  · intro h a ha
    obtain ⟨i, e⟩ := (mem_list b a).mp ha
    rw [← e]
    exact h i

end Sys2Proof.Bank
end

