-- ==== Sys2Proof/Laws/Definitions.lean ====
section
/-! SUPPORT. No function but the hand-out of the image changes the definition of a channel. -/
namespace Sys2Proof.Machine

@[simp] theorem eachChannel_outDefn (f : Channel → State → State)
    (h : ∀ ch s k, ((f ch s).out.get k).defn = (s.out.get k).defn) (s : State) (k : Channel) :
    ((eachChannel f s).out.get k).defn = (s.out.get k).defn :=
  eachChannel_keeps (fun s => (s.out.get k).defn) f (fun ch s => h ch s k) s

@[simp] theorem eachChannel_inDefn (f : Channel → State → State)
    (h : ∀ ch s k, ((f ch s).inb.get k).defn = (s.inb.get k).defn) (s : State) (k : Channel) :
    ((eachChannel f s).inb.get k).defn = (s.inb.get k).defn :=
  eachChannel_keeps (fun s => (s.inb.get k).defn) f (fun ch s => h ch s k) s

@[simp] theorem set_outDefn (b : Bank 8 OutChannel) (i k : Channel) (c : OutChannel) (h : c.defn = (b.get i).defn) :
    ((b.set i c).get k).defn = (b.get k).defn := by
  rw [Bank.get_set]; split
  · next e => rw [h, e]
  · rfl

@[simp] theorem set_inDefn (b : Bank 8 InChannel) (i k : Channel) (c : InChannel) (h : c.defn = (b.get i).defn) :
    ((b.set i c).get k).defn = (b.get k).defn := by
  rw [Bank.get_set]; split
  · next e => rw [h, e]
  · rfl


@[simp] theorem flushQueue_defn (c : OutChannel) : (flushQueue c).defn = c.defn := by
  unfold flushQueue; (repeat' split) <;> simp

@[simp] theorem openRecord_defn (c : OutChannel) : (openRecord c).defn = c.defn := by
  unfold openRecord; (repeat' split) <;> simp

@[simp] theorem closedRecord_defn (c : OutChannel) : (closedRecord c).defn = c.defn := by
  unfold closedRecord; (repeat' split) <;> simp

@[simp] theorem lostRecord_defn (c : OutChannel) : (lostRecord c).defn = c.defn := by
  unfold lostRecord; (repeat' split) <;> simp

@[simp] theorem pauseChannel_defn (cause : Bool) (c : OutChannel) : (pauseChannel cause c).defn = c.defn := by
  unfold pauseChannel; (repeat' split) <;> simp

@[simp] theorem sentRecord_defn (c : OutChannel) : (sentRecord c).defn = c.defn := by
  unfold sentRecord; (repeat' split) <;> simp

@[simp] theorem appendWord_defn (e : QueuedWord) (c : OutChannel) : (appendWord e c).defn = c.defn := by
  unfold appendWord; (repeat' split) <;> simp

@[simp] theorem dropOldest_defn (c : OutChannel) : (dropOldest c).defn = c.defn := by
  unfold dropOldest; (repeat' split) <;> simp

@[simp] theorem refuseWord_defn (c : OutChannel) : (refuseWord c).defn = c.defn := by
  unfold refuseWord; (repeat' split) <;> simp

@[simp] theorem followHolder_defn (c : InChannel) (s : State) : (followHolder c s).defn = c.defn := by
  unfold followHolder; (repeat' split) <;> simp

@[simp] theorem closedIn_defn (c : InChannel) : (closedIn c).defn = c.defn := by
  unfold closedIn; (repeat' split) <;> simp

@[simp] theorem windowTrigger_defn (localOrigin : Bool) (t : Trigger) (c : InChannel) :
    (windowTrigger localOrigin t c).defn = c.defn := by
  unfold windowTrigger; (repeat' split) <;> simp

@[simp] theorem appendRecord_defn (d : Delivery) (c : InChannel) : (appendRecord d c).defn = c.defn := by
  unfold appendRecord; (repeat' split) <;> simp

@[simp] theorem refuseRecord_defn (c : InChannel) : (refuseRecord c).defn = c.defn := by
  unfold refuseRecord; (repeat' split) <;> simp

@[simp] theorem recordPacket_defn (p : Sample) (offset : Nat) (invalid superseded : Bool) (c : InChannel) :
    (recordPacket p offset invalid superseded c).1.defn = c.defn := by
  unfold recordPacket; (repeat' split) <;> simp

@[simp] theorem endStream_defn (now : Nat) (deliver : Bool) (unknown : StationId) (c : InChannel) :
    (endStream now deliver unknown c).1.defn = c.defn := by
  unfold endStream; (repeat' split) <;> simp

@[simp] theorem markSkipped_defn (c : InChannel) : (markSkipped c).defn = c.defn := by
  unfold markSkipped; (repeat' split) <;> simp

@[simp] theorem dropHeld_defn (c : InChannel) : (dropHeld c).defn = c.defn := by
  unfold dropHeld; (repeat' split) <;> simp

@[simp] theorem settleHold_defn (c : InChannel) : (settleHold c).defn = c.defn := by
  unfold settleHold; (repeat' split) <;> simp

@[simp] theorem toWaiting_defn (c : InChannel) : (toWaiting c).defn = c.defn := by
  unfold toWaiting; (repeat' split) <;> simp


@[simp] theorem frameRequest_outDefn (kind channel offset : Byte) (d : State → Decision)
    (h : ∀ s q, ((d s).2.2.out.get q).defn = (s.out.get q).defn) (s : State) (q : Channel) :
    ((frameRequest kind channel offset d s).out.get q).defn = (s.out.get q).defn := by
  unfold frameRequest; (try dsimp only); split <;> simp [h]

@[simp] theorem frameRequest_inDefn (kind channel offset : Byte) (d : State → Decision)
    (h : ∀ s q, ((d s).2.2.inb.get q).defn = (s.inb.get q).defn) (s : State) (q : Channel) :
    ((frameRequest kind channel offset d s).inb.get q).defn = (s.inb.get q).defn := by
  unfold frameRequest; (try dsimp only); split <;> simp [h]

@[simp] theorem handTrigger_inDefn (localOrigin : Bool) (t : Trigger) (s : State) (q : Channel) :
    ((handTrigger localOrigin t s).inb.get q).defn = (s.inb.get q).defn := by
  unfold handTrigger; (try dsimp only); (repeat' split) <;> simp

theorem storePacket_defn (p : Sample) (failed : Bool) (c : InChannel) (m : Memory) :
    (storePacket p failed c m).chan.defn = c.defn := by
  unfold storePacket storeRing storePair; (repeat' split) <;> simp

@[simp] theorem takePacket_defn (p : Sample) (failed : Bool) (c : InChannel) (m : Memory) :
    (takePacket p failed c m).1.defn = c.defn := by
  unfold takePacket; dsimp only; (repeat' split) <;> simp [storePacket_defn]

@[simp] theorem channelTakes_inDefn (p : Sample) (failed : Bool) (ch : Channel) (s : State) (q : Channel) :
    ((channelTakes p failed ch s).inb.get q).defn = (s.inb.get q).defn := by
  unfold channelTakes; (try dsimp only); (repeat' split) <;> simp

@[simp] theorem deliverSample_inDefn (p : Sample) (failed : Bool) (s : State) (q : Channel) :
    ((deliverSample p failed s).inb.get q).defn = (s.inb.get q).defn := by
  unfold deliverSample; (try dsimp only); (repeat' split) <;> simp

@[simp] theorem showHolder_inDefn (p : Sample) (ch : Channel) (s : State) (q : Channel) :
    ((showHolder p ch s).inb.get q).defn = (s.inb.get q).defn := by
  unfold showHolder; (try dsimp only); (repeat' split) <;> simp

@[simp] theorem heldReportTo_inDefn (n : Stream) (ch : Channel) (s : State) (q : Channel) :
    ((heldReportTo n ch s).inb.get q).defn = (s.inb.get q).defn := by
  unfold heldReportTo; (try dsimp only); (repeat' split) <;> simp

@[simp] theorem streamHeldReport_inDefn (n : Stream) (s : State) (q : Channel) :
    ((streamHeldReport n s).inb.get q).defn = (s.inb.get q).defn := by
  unfold streamHeldReport; (try dsimp only); (repeat' split) <;> simp

@[simp] theorem streamEnds_inDefn (st : InState) (ch : Channel) (s : State) (q : Channel) :
    ((streamEnds st ch s).inb.get q).defn = (s.inb.get q).defn := by
  unfold streamEnds; (try dsimp only); (repeat' split) <;> simp

@[simp] theorem loseStream_inDefn (ch : Channel) (s : State) (q : Channel) :
    ((loseStream ch s).inb.get q).defn = (s.inb.get q).defn := by
  unfold loseStream; (try dsimp only); (repeat' split) <;> simp

@[simp] theorem freedReportTo_inDefn (n : Stream) (ch : Channel) (s : State) (q : Channel) :
    ((freedReportTo n ch s).inb.get q).defn = (s.inb.get q).defn := by
  unfold freedReportTo; (try dsimp only); (repeat' split) <;> simp

@[simp] theorem streamFreedReport_inDefn (n : Stream) (s : State) (q : Channel) :
    ((streamFreedReport n s).inb.get q).defn = (s.inb.get q).defn := by
  unfold streamFreedReport; (try dsimp only); (repeat' split) <;> simp

@[simp] theorem streamsFreed_inDefn (l : List Stream) (s : State) (q : Channel) :
    ((streamsFreed l s).inb.get q).defn = (s.inb.get q).defn := by
  induction l generalizing s with
  | nil => simp [streamsFreed]
  | cons x xs ih => simp [streamsFreed, ih]

@[simp] theorem joinedReportTo_inDefn (ch : Channel) (s : State) (q : Channel) :
    ((joinedReportTo ch s).inb.get q).defn = (s.inb.get q).defn := by
  unfold joinedReportTo; (try dsimp only); (repeat' split) <;> simp

@[simp] theorem reevaluate_inDefn (ch : Channel) (s : State) (q : Channel) :
    ((reevaluate ch s).inb.get q).defn = (s.inb.get q).defn := by
  unfold reevaluate; (try dsimp only); (repeat' split) <;> simp

@[simp] theorem reevaluateInbound_inDefn (s : State) (q : Channel) :
    ((reevaluateInbound s).inb.get q).defn = (s.inb.get q).defn := by
  unfold reevaluateInbound; (try dsimp only); (repeat' split) <;> simp

@[simp] theorem inboundWaits_inDefn (s : State) (q : Channel) :
    ((inboundWaits s).inb.get q).defn = (s.inb.get q).defn := by
  unfold inboundWaits; (try dsimp only); (repeat' split) <;> simp

@[simp] theorem becomeClosed_outDefn (ch : Channel) (s : State) (q : Channel) :
    ((becomeClosed ch s).out.get q).defn = (s.out.get q).defn := by
  unfold becomeClosed; (try dsimp only); (repeat' split) <;> simp

@[simp] theorem becomeLost_outDefn (ch : Channel) (s : State) (q : Channel) :
    ((becomeLost ch s).out.get q).defn = (s.out.get q).defn := by
  unfold becomeLost; (try dsimp only); (repeat' split) <;> simp

@[simp] theorem settlePause_outDefn (s : State) (q : Channel) :
    ((settlePause s).out.get q).defn = (s.out.get q).defn := by
  unfold settlePause; (try dsimp only); (repeat' split) <;> simp

@[simp] theorem startAttempt_outDefn (ch : Channel) (s : State) (q : Channel) :
    ((startAttempt ch s).out.get q).defn = (s.out.get q).defn := by
  unfold startAttempt; (try dsimp only); (repeat' split) <;> simp

@[simp] theorem endClaiming_outDefn (ch : Channel) (st : OutState) (s : State) (q : Channel) :
    ((endClaiming ch st s).out.get q).defn = (s.out.get q).defn := by
  unfold endClaiming; (try dsimp only); (repeat' split) <;> simp

@[simp] theorem becomeFailed_outDefn (ch : Channel) (s : State) (q : Channel) :
    ((becomeFailed ch s).out.get q).defn = (s.out.get q).defn := by
  unfold becomeFailed; (try dsimp only); (repeat' split) <;> simp

@[simp] theorem completeAttempt_outDefn (ch : Channel) (s : State) (q : Channel) :
    ((completeAttempt ch s).out.get q).defn = (s.out.get q).defn := by
  unfold completeAttempt; (try dsimp only); (repeat' split) <;> simp

@[simp] theorem completeEmptyAttempt_outDefn (ch : Channel) (s : State) (q : Channel) :
    ((completeEmptyAttempt ch s).out.get q).defn = (s.out.get q).defn := by
  unfold completeEmptyAttempt; (try dsimp only); (repeat' split) <;> simp

@[simp] theorem completeEmptyAttempts_outDefn (s : State) (q : Channel) :
    ((completeEmptyAttempts s).out.get q).defn = (s.out.get q).defn := by
  unfold completeEmptyAttempts; (try dsimp only); (repeat' split) <;> simp

@[simp] theorem withdrawClaims_outDefn (ch : Channel) (s : State) (q : Channel) :
    ((withdrawClaims ch s).out.get q).defn = (s.out.get q).defn := by
  unfold withdrawClaims; (try dsimp only); (repeat' split) <;> simp

@[simp] theorem releaseSlots_outDefn (ch : Channel) (slots : List Slot) (s : State) (q : Channel) :
    ((releaseSlots ch slots s).out.get q).defn = (s.out.get q).defn := by
  unfold releaseSlots; (try dsimp only); (repeat' split) <;> simp

@[simp] theorem closingDone_outDefn (ch : Channel) (s : State) (q : Channel) :
    ((closingDone ch s).out.get q).defn = (s.out.get q).defn := by
  unfold closingDone; (try dsimp only); (repeat' split) <;> simp

@[simp] theorem beginClosing_outDefn (ch : Channel) (goal : ClosingTo) (s : State) (q : Channel) :
    ((beginClosing ch goal s).out.get q).defn = (s.out.get q).defn := by
  unfold beginClosing; (try dsimp only); (repeat' split) <;> simp

@[simp] theorem giveUpClaims_outDefn (ch : Channel) (s : State) (q : Channel) :
    ((giveUpClaims ch s).out.get q).defn = (s.out.get q).defn := by
  unfold giveUpClaims; (try dsimp only); (repeat' split) <;> simp

@[simp] theorem carryOutClose_outDefn (ch : Channel) (s : State) (q : Channel) :
    ((carryOutClose ch s).out.get q).defn = (s.out.get q).defn := by
  unfold carryOutClose; (try dsimp only); (repeat' split) <;> simp

@[simp] theorem carryOutPending_outDefn (ch : Channel) (s : State) (q : Channel) :
    ((carryOutPending ch s).out.get q).defn = (s.out.get q).defn := by
  unfold carryOutPending; (try dsimp only); (repeat' split) <;> simp

@[simp] theorem carryOutCloses_outDefn (s : State) (q : Channel) :
    ((carryOutCloses s).out.get q).defn = (s.out.get q).defn := by
  unfold carryOutCloses; (try dsimp only); (repeat' split) <;> simp

@[simp] theorem leaveCloseChannel_outDefn (outcome : LeaveOutcome) (ch : Channel) (s : State) (q : Channel) :
    ((leaveCloseChannel outcome ch s).out.get q).defn = (s.out.get q).defn := by
  unfold leaveCloseChannel; (try dsimp only); (repeat' split) <;> simp

@[simp] theorem leaveClosing_outDefn (s : State) (q : Channel) :
    ((leaveClosing s).out.get q).defn = (s.out.get q).defn := by
  unfold leaveClosing; (try dsimp only); (repeat' split) <;> simp

@[simp] theorem ownReleaseTaken_outDefn (ch : Channel) (r : Release) (s : State) (q : Channel) :
    ((ownReleaseTaken ch r s).out.get q).defn = (s.out.get q).defn := by
  unfold ownReleaseTaken; (try dsimp only); (repeat' split) <;> simp

@[simp] theorem enterConflict_outDefn (ch : Channel) (s : State) (q : Channel) :
    ((enterConflict ch s).out.get q).defn = (s.out.get q).defn := by
  unfold enterConflict; (try dsimp only); (repeat' split) <;> simp

@[simp] theorem claimOutcome_outDefn (ch : Channel) (claim : Claim) (r : ClaimResult) (s : State) (q : Channel) :
    ((claimOutcome ch claim r s).out.get q).defn = (s.out.get q).defn := by
  unfold claimOutcome; (try dsimp only); (repeat' split) <;> simp

@[simp] theorem openChannel_outDefn (ch : Channel) (s : State) (q : Channel) :
    ((openChannel ch s).out.get q).defn = (s.out.get q).defn := by
  unfold openChannel; (try dsimp only); (repeat' split) <;> simp

@[simp] theorem reclaim_outDefn (ch : Channel) (s : State) (q : Channel) :
    ((reclaim ch s).out.get q).defn = (s.out.get q).defn := by
  unfold reclaim; (try dsimp only); (repeat' split) <;> simp

@[simp] theorem joinedOut_outDefn (ch : Channel) (s : State) (q : Channel) :
    ((joinedOut ch s).out.get q).defn = (s.out.get q).defn := by
  unfold joinedOut; (try dsimp only); (repeat' split) <;> simp

@[simp] theorem slotLost_outDefn (ch : Channel) (l : Slot) (s : State) (q : Channel) :
    ((slotLost ch l s).out.get q).defn = (s.out.get q).defn := by
  unfold slotLost; (try dsimp only); (repeat' split) <;> simp

@[simp] theorem emptyConflict_outDefn (ch : Channel) (s : State) (q : Channel) :
    ((emptyConflict ch s).out.get q).defn = (s.out.get q).defn := by
  unfold emptyConflict; (try dsimp only); (repeat' split) <;> simp

@[simp] theorem loseChannel_outDefn (ch : Channel) (s : State) (q : Channel) :
    ((loseChannel ch s).out.get q).defn = (s.out.get q).defn := by
  unfold loseChannel; (try dsimp only); (repeat' split) <;> simp

@[simp] theorem closeChannel_outDefn (ch : Channel) (s : State) (q : Channel) :
    ((closeChannel ch s).out.get q).defn = (s.out.get q).defn := by
  unfold closeChannel; (try dsimp only); (repeat' split) <;> simp

@[simp] theorem withdrawOutbound_outDefn (k : Withdrawal) (s : State) (q : Channel) :
    ((withdrawOutbound k s).out.get q).defn = (s.out.get q).defn := by
  unfold withdrawOutbound; (try dsimp only); (repeat' split) <;> simp

@[simp] theorem spendSample_outDefn (ch : Channel) (s : State) (q : Channel) :
    ((spendSample ch s).out.get q).defn = (s.out.get q).defn := by
  unfold spendSample; (try dsimp only); (repeat' split) <;> simp

@[simp] theorem tellDisplaced_outDefn (e : QueueEntry) (s : State) (q : Channel) :
    ((tellDisplaced e s).out.get q).defn = (s.out.get q).defn := by
  unfold tellDisplaced; (try dsimp only); (repeat' split) <;> simp

@[simp] theorem admitReserved_outDefn (e : QueueEntry) (s : State) (q : Channel) :
    ((admitReserved e s).out.get q).defn = (s.out.get q).defn := by
  unfold admitReserved; (try dsimp only); (repeat' split) <;> simp

@[simp] theorem standOutside_inDefn (st : StationState) (s : State) (q : Channel) :
    ((standOutside st s).inb.get q).defn = (s.inb.get q).defn := by
  unfold standOutside; (try dsimp only); (repeat' split) <;> simp

@[simp] theorem enterListening_inDefn (s : State) (q : Channel) :
    ((enterListening s).inb.get q).defn = (s.inb.get q).defn := by
  unfold enterListening; (try dsimp only); (repeat' split) <;> simp

@[simp] theorem enterParked_inDefn (s : State) (q : Channel) :
    ((enterParked s).inb.get q).defn = (s.inb.get q).defn := by
  unfold enterParked; (try dsimp only); (repeat' split) <;> simp

@[simp] theorem enterBlocked_inDefn (r : BlockReason) (s : State) (q : Channel) :
    ((enterBlocked r s).inb.get q).defn = (s.inb.get q).defn := by
  unfold enterBlocked; (try dsimp only); (repeat' split) <;> simp

@[simp] theorem withdraw_outDefn (k : Withdrawal) (s : State) (q : Channel) :
    ((withdraw k s).out.get q).defn = (s.out.get q).defn := by
  unfold withdraw; (try dsimp only); (repeat' split) <;> simp

@[simp] theorem withdraw_inDefn (k : Withdrawal) (s : State) (q : Channel) :
    ((withdraw k s).inb.get q).defn = (s.inb.get q).defn := by
  unfold withdraw; (try dsimp only); (repeat' split) <;> simp

@[simp] theorem queueHandoff_outDefn (s : State) (q : Channel) :
    ((queueHandoff s).out.get q).defn = (s.out.get q).defn := by
  unfold queueHandoff; (try dsimp only); (repeat' split) <;> simp

@[simp] theorem startLeaving_outDefn (outcome : LeaveOutcome) (s : State) (q : Channel) :
    ((startLeaving outcome s).out.get q).defn = (s.out.get q).defn := by
  unfold startLeaving; (try dsimp only); (repeat' split) <;> simp

@[simp] theorem raiseRejoin_outDefn (s : State) (q : Channel) :
    ((raiseRejoin s).out.get q).defn = (s.out.get q).defn := by
  unfold raiseRejoin; (try dsimp only); (repeat' split) <;> simp

@[simp] theorem endLeaving_outDefn (s : State) (q : Channel) :
    ((endLeaving s).out.get q).defn = (s.out.get q).defn := by
  unfold endLeaving; (try dsimp only); (repeat' split) <;> simp

@[simp] theorem endLeaving_inDefn (s : State) (q : Channel) :
    ((endLeaving s).inb.get q).defn = (s.inb.get q).defn := by
  unfold endLeaving; (try dsimp only); (repeat' split) <;> simp

@[simp] theorem endLeavingIfTaken_outDefn (s : State) (q : Channel) :
    ((endLeavingIfTaken s).out.get q).defn = (s.out.get q).defn := by
  unfold endLeavingIfTaken; (try dsimp only); (repeat' split) <;> simp

@[simp] theorem endLeavingIfTaken_inDefn (s : State) (q : Channel) :
    ((endLeavingIfTaken s).inb.get q).defn = (s.inb.get q).defn := by
  unfold endLeavingIfTaken; (try dsimp only); (repeat' split) <;> simp

@[simp] theorem enterIsolated_outDefn (s : State) (q : Channel) :
    ((enterIsolated s).out.get q).defn = (s.out.get q).defn := by
  unfold enterIsolated; (try dsimp only); (repeat' split) <;> simp

@[simp] theorem becomeJoined_outDefn (round : Nat) (s : State) (q : Channel) :
    ((becomeJoined round s).out.get q).defn = (s.out.get q).defn := by
  unfold becomeJoined; (try dsimp only); (repeat' split) <;> simp

@[simp] theorem becomeJoined_inDefn (round : Nat) (s : State) (q : Channel) :
    ((becomeJoined round s).inb.get q).defn = (s.inb.get q).defn := by
  unfold becomeJoined; (try dsimp only); (repeat' split) <;> simp

@[simp] theorem abandonAdmission_outDefn (s : State) (q : Channel) :
    ((abandonAdmission s).out.get q).defn = (s.out.get q).defn := by
  unfold abandonAdmission; (try dsimp only); (repeat' split) <;> simp

@[simp] theorem abandonAdmission_inDefn (s : State) (q : Channel) :
    ((abandonAdmission s).inb.get q).defn = (s.inb.get q).defn := by
  unfold abandonAdmission; (try dsimp only); (repeat' split) <;> simp

@[simp] theorem freeBy_inDefn (p : Slot → Holding → Bool) (s : State) (q : Channel) :
    ((freeBy p s).inb.get q).defn = (s.inb.get q).defn := by
  unfold freeBy; (try dsimp only); (repeat' split) <;> simp

@[simp] theorem departure_inDefn (i : StationId) (s : State) (q : Channel) :
    ((departure i s).inb.get q).defn = (s.inb.get q).defn := by
  unfold departure; (try dsimp only); (repeat' split) <;> simp

@[simp] theorem departuresOf_inDefn (l : List StationId) (s : State) (q : Channel) :
    ((departuresOf l s).inb.get q).defn = (s.inb.get q).defn := by
  induction l generalizing s with
  | nil => simp [departuresOf]
  | cons x xs ih => simp [departuresOf, ih]

@[simp] theorem applyDepartures_inDefn (s : State) (q : Channel) :
    ((applyDepartures s).inb.get q).defn = (s.inb.get q).defn := by
  unfold applyDepartures; (try dsimp only); (repeat' split) <;> simp

@[simp] theorem mapSourceLost_inDefn (lost : Option StationId) (s : State) (q : Channel) :
    ((mapSourceLost lost s).inb.get q).defn = (s.inb.get q).defn := by
  unfold mapSourceLost; (try dsimp only); (repeat' split) <;> simp

@[simp] theorem slotsLostOf_outDefn (ch : Channel) (l : List Slot) (s : State) (q : Channel) :
    ((slotsLostOf ch l s).out.get q).defn = (s.out.get q).defn := by
  induction l generalizing s with
  | nil => simp [slotsLostOf]
  | cons x xs ih => simp [slotsLostOf, ih]

@[simp] theorem dropUnowned_outDefn (ch : Channel) (s : State) (q : Channel) :
    ((dropUnowned ch s).out.get q).defn = (s.out.get q).defn := by
  unfold dropUnowned; (try dsimp only); (repeat' split) <;> simp

@[simp] theorem reconcile_outDefn (s : State) (q : Channel) :
    ((reconcile s).out.get q).defn = (s.out.get q).defn := by
  unfold reconcile; (try dsimp only); (repeat' split) <;> simp

@[simp] theorem reconcile_inDefn (s : State) (q : Channel) :
    ((reconcile s).inb.get q).defn = (s.inb.get q).defn := by
  unfold reconcile; (try dsimp only); (repeat' split) <;> simp

@[simp] theorem startResyncAt_outDefn (count : Nat) (s : State) (q : Channel) :
    ((startResyncAt count s).out.get q).defn = (s.out.get q).defn := by
  unfold startResyncAt; (try dsimp only); (repeat' split) <;> simp

@[simp] theorem resyncCause_outDefn (s : State) (q : Channel) :
    ((resyncCause s).out.get q).defn = (s.out.get q).defn := by
  unfold resyncCause; (try dsimp only); (repeat' split) <;> simp

@[simp] theorem epochTest_outDefn (epoch : Nat) (s : State) (q : Channel) :
    ((epochTest epoch s).out.get q).defn = (s.out.get q).defn := by
  unfold epochTest; (try dsimp only); (repeat' split) <;> simp

@[simp] theorem compareHeld_outDefn (i : StationId) (held : Nat) (s : State) (q : Channel) :
    ((compareHeld i held s).out.get q).defn = (s.out.get q).defn := by
  unfold compareHeld; (try dsimp only); (repeat' split) <;> simp

@[simp] theorem countStray_outDefn (s : State) (q : Channel) :
    ((countStray s).out.get q).defn = (s.out.get q).defn := by
  unfold countStray; (try dsimp only); (repeat' split) <;> simp

@[simp] theorem applyClaim_inDefn (c : Claim) (s : State) (q : Channel) :
    ((applyClaim c s).2.inb.get q).defn = (s.inb.get q).defn := by
  unfold applyClaim; (try dsimp only); (repeat' split) <;> simp

@[simp] theorem resyncMark_outDefn (m : Mark) (s : State) (q : Channel) :
    ((resyncMark m s).out.get q).defn = (s.out.get q).defn := by
  unfold resyncMark; (try dsimp only); (repeat' split) <;> simp

@[simp] theorem resyncMark_inDefn (m : Mark) (s : State) (q : Channel) :
    ((resyncMark m s).inb.get q).defn = (s.inb.get q).defn := by
  unfold resyncMark; (try dsimp only); (repeat' split) <;> simp

@[simp] theorem learnFailure_inDefn (m : Mark) (s : State) (q : Channel) :
    ((learnFailure m s).inb.get q).defn = (s.inb.get q).defn := by
  unfold learnFailure; (try dsimp only); (repeat' split) <;> simp

@[simp] theorem learnMark_inDefn (m : Mark) (s : State) (q : Channel) :
    ((learnMark m s).inb.get q).defn = (s.inb.get q).defn := by
  unfold learnMark; (try dsimp only); (repeat' split) <;> simp

@[simp] theorem mapTakesMark_outDefn (m : Mark) (s : State) (q : Channel) :
    ((mapTakesMark m s).out.get q).defn = (s.out.get q).defn := by
  unfold mapTakesMark; (try dsimp only); (repeat' split) <;> simp

@[simp] theorem mapTakesMark_inDefn (m : Mark) (s : State) (q : Channel) :
    ((mapTakesMark m s).inb.get q).defn = (s.inb.get q).defn := by
  unfold mapTakesMark; (try dsimp only); (repeat' split) <;> simp

@[simp] theorem judge_outDefn (k : IntervalKind) (s : State) (q : Channel) :
    ((judge k s).out.get q).defn = (s.out.get q).defn := by
  unfold judge; (try dsimp only); (repeat' split) <;> simp

@[simp] theorem endInterval_outDefn (k : IntervalKind) (next : State → Interval) (s : State) (q : Channel) :
    ((endInterval k next s).out.get q).defn = (s.out.get q).defn := by
  unfold endInterval; (try dsimp only); (repeat' split) <;> simp

@[simp] theorem guardBoundary_outDefn (s : State) (q : Channel) :
    ((guardBoundary s).out.get q).defn = (s.out.get q).defn := by
  unfold guardBoundary; (try dsimp only); (repeat' split) <;> simp

@[simp] theorem raiseTimeStep_outDefn (s : State) (q : Channel) :
    ((raiseTimeStep s).out.get q).defn = (s.out.get q).defn := by
  unfold raiseTimeStep; (try dsimp only); (repeat' split) <;> simp

@[simp] theorem raiseTimeStep_inDefn (s : State) (q : Channel) :
    ((raiseTimeStep s).inb.get q).defn = (s.inb.get q).defn := by
  unfold raiseTimeStep; (try dsimp only); (repeat' split) <;> simp

@[simp] theorem correct_outDefn (time received : Nat) (s : State) (q : Channel) :
    ((correct time received s).out.get q).defn = (s.out.get q).defn := by
  unfold correct; (try dsimp only); (repeat' split) <;> simp

@[simp] theorem correct_inDefn (time received : Nat) (s : State) (q : Channel) :
    ((correct time received s).inb.get q).defn = (s.inb.get q).defn := by
  unfold correct; (try dsimp only); (repeat' split) <;> simp

@[simp] theorem abandonEmptyTrunk_outDefn (s : State) (q : Channel) :
    ((abandonEmptyTrunk s).out.get q).defn = (s.out.get q).defn := by
  unfold abandonEmptyTrunk; (try dsimp only); (repeat' split) <;> simp

@[simp] theorem abandonEmptyTrunk_inDefn (s : State) (q : Channel) :
    ((abandonEmptyTrunk s).inb.get q).defn = (s.inb.get q).defn := by
  unfold abandonEmptyTrunk; (try dsimp only); (repeat' split) <;> simp

@[simp] theorem endAdmission_outDefn (s : State) (q : Channel) :
    ((endAdmission s).out.get q).defn = (s.out.get q).defn := by
  unfold endAdmission; (try dsimp only); (repeat' split) <;> simp

@[simp] theorem endAdmission_inDefn (s : State) (q : Channel) :
    ((endAdmission s).inb.get q).defn = (s.inb.get q).defn := by
  unfold endAdmission; (try dsimp only); (repeat' split) <;> simp

@[simp] theorem unframe_outDefn (s : State) (q : Channel) :
    ((unframe s).out.get q).defn = (s.out.get q).defn := by
  unfold unframe; (try dsimp only); (repeat' split) <;> simp

@[simp] theorem unframe_inDefn (s : State) (q : Channel) :
    ((unframe s).inb.get q).defn = (s.inb.get q).defn := by
  unfold unframe; (try dsimp only); (repeat' split) <;> simp

@[simp] theorem declareLoss_outDefn (s : State) (q : Channel) :
    ((declareLoss s).out.get q).defn = (s.out.get q).defn := by
  unfold declareLoss; (try dsimp only); (repeat' split) <;> simp

@[simp] theorem declareLoss_inDefn (s : State) (q : Channel) :
    ((declareLoss s).inb.get q).defn = (s.inb.get q).defn := by
  unfold declareLoss; (try dsimp only); (repeat' split) <;> simp

@[simp] theorem gainRole_outDefn (due : MarkAt) (period : Nat) (s : State) (q : Channel) :
    ((gainRole due period s).out.get q).defn = (s.out.get q).defn := by
  unfold gainRole; (try dsimp only); (repeat' split) <;> simp

@[simp] theorem gainRole_inDefn (due : MarkAt) (period : Nat) (s : State) (q : Channel) :
    ((gainRole due period s).inb.get q).defn = (s.inb.get q).defn := by
  unfold gainRole; (try dsimp only); (repeat' split) <;> simp

@[simp] theorem markUnsent_outDefn (s : State) (q : Channel) :
    ((markUnsent s).out.get q).defn = (s.out.get q).defn := by
  unfold markUnsent; (try dsimp only); (repeat' split) <;> simp

@[simp] theorem markUnsent_inDefn (s : State) (q : Channel) :
    ((markUnsent s).inb.get q).defn = (s.inb.get q).defn := by
  unfold markUnsent; (try dsimp only); (repeat' split) <;> simp

@[simp] theorem settle_outDefn (s : State) (q : Channel) :
    ((settle s).out.get q).defn = (s.out.get q).defn := by
  unfold settle; (try dsimp only); (repeat' split) <;> simp

@[simp] theorem boundaryWork_outDefn (s : State) (q : Channel) :
    ((boundaryWork s).out.get q).defn = (s.out.get q).defn := by
  unfold boundaryWork; (try dsimp only); (repeat' split) <;> simp

@[simp] theorem boundaryWork_inDefn (s : State) (q : Channel) :
    ((boundaryWork s).inb.get q).defn = (s.inb.get q).defn := by
  unfold boundaryWork; (try dsimp only); (repeat' split) <;> simp

@[simp] theorem declareBoundary_outDefn (s : State) (q : Channel) :
    ((declareBoundary s).out.get q).defn = (s.out.get q).defn := by
  unfold declareBoundary; (try dsimp only); (repeat' split) <;> simp

@[simp] theorem declareBoundary_inDefn (s : State) (q : Channel) :
    ((declareBoundary s).inb.get q).defn = (s.inb.get q).defn := by
  unfold declareBoundary; (try dsimp only); (repeat' split) <;> simp

@[simp] theorem impliedBoundary_outDefn (round : Nat) (s : State) (q : Channel) :
    ((impliedBoundary round s).out.get q).defn = (s.out.get q).defn := by
  unfold impliedBoundary; (try dsimp only); (repeat' split) <;> simp

@[simp] theorem impliedBoundary_inDefn (round : Nat) (s : State) (q : Channel) :
    ((impliedBoundary round s).inb.get q).defn = (s.inb.get q).defn := by
  unfold impliedBoundary; (try dsimp only); (repeat' split) <;> simp

@[simp] theorem framingBoundary_outDefn (round : Nat) (s : State) (q : Channel) :
    ((framingBoundary round s).out.get q).defn = (s.out.get q).defn := by
  unfold framingBoundary; (try dsimp only); (repeat' split) <;> simp

@[simp] theorem openRound_outDefn (round start period : Nat) (s : State) (q : Channel) :
    ((openRound round start period s).out.get q).defn = (s.out.get q).defn := by
  unfold openRound; (try dsimp only); (repeat' split) <;> simp

@[simp] theorem packetLost_outDefn (s : State) (q : Channel) :
    ((packetLost s).out.get q).defn = (s.out.get q).defn := by
  unfold packetLost; (try dsimp only); (repeat' split) <;> simp

@[simp] theorem packetLost_inDefn (s : State) (q : Channel) :
    ((packetLost s).inb.get q).defn = (s.inb.get q).defn := by
  unfold packetLost; (try dsimp only); (repeat' split) <;> simp

@[simp] theorem sampleTaken_outDefn (p : Sample) (failed : Bool) (s : State) (q : Channel) :
    ((sampleTaken p failed s).out.get q).defn = (s.out.get q).defn := by
  unfold sampleTaken; (try dsimp only); (repeat' split) <;> simp

@[simp] theorem sampleTaken_inDefn (p : Sample) (failed : Bool) (s : State) (q : Channel) :
    ((sampleTaken p failed s).inb.get q).defn = (s.inb.get q).defn := by
  unfold sampleTaken; (try dsimp only); (repeat' split) <;> simp

@[simp] theorem hearFailed_outDefn (h : Heard) (s : State) (q : Channel) :
    ((hearFailed h s).out.get q).defn = (s.out.get q).defn := by
  unfold hearFailed; (try dsimp only); (repeat' split) <;> simp

@[simp] theorem hearFailed_inDefn (h : Heard) (s : State) (q : Channel) :
    ((hearFailed h s).inb.get q).defn = (s.inb.get q).defn := by
  unfold hearFailed; (try dsimp only); (repeat' split) <;> simp

@[simp] theorem checkView_outDefn (m : Mark) (s : State) (q : Channel) :
    ((checkView m s).out.get q).defn = (s.out.get q).defn := by
  unfold checkView; (try dsimp only); (repeat' split) <;> simp

@[simp] theorem handOnMark_outDefn (m : Mark) (s : State) (q : Channel) :
    ((handOnMark m s).out.get q).defn = (s.out.get q).defn := by
  unfold handOnMark; (try dsimp only); (repeat' split) <;> simp

@[simp] theorem handOnMark_inDefn (m : Mark) (s : State) (q : Channel) :
    ((handOnMark m s).inb.get q).defn = (s.inb.get q).defn := by
  unfold handOnMark; (try dsimp only); (repeat' split) <;> simp

@[simp] theorem follow_outDefn (m : Mark) (received : Nat) (s : State) (q : Channel) :
    ((follow m received s).out.get q).defn = (s.out.get q).defn := by
  unfold follow; (try dsimp only); (repeat' split) <;> simp

@[simp] theorem follow_inDefn (m : Mark) (received : Nat) (s : State) (q : Channel) :
    ((follow m received s).inb.get q).defn = (s.inb.get q).defn := by
  unfold follow; (try dsimp only); (repeat' split) <;> simp

@[simp] theorem sourceTakesMark_outDefn (m : Mark) (received : Nat) (s : State) (q : Channel) :
    ((sourceTakesMark m received s).out.get q).defn = (s.out.get q).defn := by
  unfold sourceTakesMark; (try dsimp only); (repeat' split) <;> simp

@[simp] theorem sourceTakesMark_inDefn (m : Mark) (received : Nat) (s : State) (q : Channel) :
    ((sourceTakesMark m received s).inb.get q).defn = (s.inb.get q).defn := by
  unfold sourceTakesMark; (try dsimp only); (repeat' split) <;> simp

@[simp] theorem otherMarkTaken_outDefn (m : Mark) (received : Nat) (s : State) (q : Channel) :
    ((otherMarkTaken m received s).out.get q).defn = (s.out.get q).defn := by
  unfold otherMarkTaken; (try dsimp only); (repeat' split) <;> simp

@[simp] theorem otherMarkTaken_inDefn (m : Mark) (received : Nat) (s : State) (q : Channel) :
    ((otherMarkTaken m received s).inb.get q).defn = (s.inb.get q).defn := by
  unfold otherMarkTaken; (try dsimp only); (repeat' split) <;> simp

@[simp] theorem takeoverTaken_outDefn (t : Takeover) (received : Nat) (s : State) (q : Channel) :
    ((takeoverTaken t received s).out.get q).defn = (s.out.get q).defn := by
  unfold takeoverTaken; (try dsimp only); (repeat' split) <;> simp

@[simp] theorem takeoverTaken_inDefn (t : Takeover) (received : Nat) (s : State) (q : Channel) :
    ((takeoverTaken t received s).inb.get q).defn = (s.inb.get q).defn := by
  unfold takeoverTaken; (try dsimp only); (repeat' split) <;> simp

@[simp] theorem otherTakeover_outDefn (t : Takeover) (received : Nat) (s : State) (q : Channel) :
    ((otherTakeover t received s).out.get q).defn = (s.out.get q).defn := by
  unfold otherTakeover; (try dsimp only); (repeat' split) <;> simp

@[simp] theorem otherTakeover_inDefn (t : Takeover) (received : Nat) (s : State) (q : Channel) :
    ((otherTakeover t received s).inb.get q).defn = (s.inb.get q).defn := by
  unfold otherTakeover; (try dsimp only); (repeat' split) <;> simp

@[simp] theorem emptyTrunkTaken_outDefn (t : Takeover) (s : State) (q : Channel) :
    ((emptyTrunkTaken t s).out.get q).defn = (s.out.get q).defn := by
  unfold emptyTrunkTaken; (try dsimp only); (repeat' split) <;> simp

@[simp] theorem emptyTrunkTaken_inDefn (t : Takeover) (s : State) (q : Channel) :
    ((emptyTrunkTaken t s).inb.get q).defn = (s.inb.get q).defn := by
  unfold emptyTrunkTaken; (try dsimp only); (repeat' split) <;> simp

@[simp] theorem electionWon_outDefn (t : Takeover) (s : State) (q : Channel) :
    ((electionWon t s).out.get q).defn = (s.out.get q).defn := by
  unfold electionWon; (try dsimp only); (repeat' split) <;> simp

@[simp] theorem electionWon_inDefn (t : Takeover) (s : State) (q : Channel) :
    ((electionWon t s).inb.get q).defn = (s.inb.get q).defn := by
  unfold electionWon; (try dsimp only); (repeat' split) <;> simp

@[simp] theorem ownTakeover_outDefn (t : Takeover) (e : Option QueueEntry) (s : State) (q : Channel) :
    ((ownTakeover t e s).out.get q).defn = (s.out.get q).defn := by
  unfold ownTakeover; (try dsimp only); (repeat' split) <;> simp

@[simp] theorem ownTakeover_inDefn (t : Takeover) (e : Option QueueEntry) (s : State) (q : Channel) :
    ((ownTakeover t e s).inb.get q).defn = (s.inb.get q).defn := by
  unfold ownTakeover; (try dsimp only); (repeat' split) <;> simp

@[simp] theorem handoffTaken_outDefn (h : Handoff) (s : State) (q : Channel) :
    ((handoffTaken h s).out.get q).defn = (s.out.get q).defn := by
  unfold handoffTaken; (try dsimp only); (repeat' split) <;> simp

@[simp] theorem handoffTaken_inDefn (h : Handoff) (s : State) (q : Channel) :
    ((handoffTaken h s).inb.get q).defn = (s.inb.get q).defn := by
  unfold handoffTaken; (try dsimp only); (repeat' split) <;> simp

@[simp] theorem otherHandoff_outDefn (h : Handoff) (s : State) (q : Channel) :
    ((otherHandoff h s).out.get q).defn = (s.out.get q).defn := by
  unfold otherHandoff; (try dsimp only); (repeat' split) <;> simp

@[simp] theorem otherHandoff_inDefn (h : Handoff) (s : State) (q : Channel) :
    ((otherHandoff h s).inb.get q).defn = (s.inb.get q).defn := by
  unfold otherHandoff; (try dsimp only); (repeat' split) <;> simp

@[simp] theorem ownHandoff_outDefn (h : Handoff) (s : State) (q : Channel) :
    ((ownHandoff h s).out.get q).defn = (s.out.get q).defn := by
  unfold ownHandoff; (try dsimp only); (repeat' split) <;> simp

@[simp] theorem ownHandoff_inDefn (h : Handoff) (s : State) (q : Channel) :
    ((ownHandoff h s).inb.get q).defn = (s.inb.get q).defn := by
  unfold ownHandoff; (try dsimp only); (repeat' split) <;> simp

@[simp] theorem idConflict_outDefn (s : State) (q : Channel) :
    ((idConflict s).out.get q).defn = (s.out.get q).defn := by
  unfold idConflict; (try dsimp only); (repeat' split) <;> simp

@[simp] theorem idConflict_inDefn (s : State) (q : Channel) :
    ((idConflict s).inb.get q).defn = (s.inb.get q).defn := by
  unfold idConflict; (try dsimp only); (repeat' split) <;> simp

@[simp] theorem wordTaken_outDefn (p : Presence) (s : State) (q : Channel) :
    ((wordTaken p s).out.get q).defn = (s.out.get q).defn := by
  unfold wordTaken; (try dsimp only); (repeat' split) <;> simp

@[simp] theorem otherWord_outDefn (p : Presence) (s : State) (q : Channel) :
    ((otherWord p s).out.get q).defn = (s.out.get q).defn := by
  unfold otherWord; (try dsimp only); (repeat' split) <;> simp

@[simp] theorem otherWord_inDefn (p : Presence) (s : State) (q : Channel) :
    ((otherWord p s).inb.get q).defn = (s.inb.get q).defn := by
  unfold otherWord; (try dsimp only); (repeat' split) <;> simp

@[simp] theorem joinTaken_inDefn (j : Join) (s : State) (q : Channel) :
    ((joinTaken j s).inb.get q).defn = (s.inb.get q).defn := by
  unfold joinTaken; (try dsimp only); (repeat' split) <;> simp

@[simp] theorem otherJoin_inDefn (j : Join) (s : State) (q : Channel) :
    ((otherJoin j s).inb.get q).defn = (s.inb.get q).defn := by
  unfold otherJoin; (try dsimp only); (repeat' split) <;> simp

@[simp] theorem ownJoin_outDefn (j : Join) (s : State) (q : Channel) :
    ((ownJoin j s).out.get q).defn = (s.out.get q).defn := by
  unfold ownJoin; (try dsimp only); (repeat' split) <;> simp

@[simp] theorem ownJoin_inDefn (j : Join) (s : State) (q : Channel) :
    ((ownJoin j s).inb.get q).defn = (s.inb.get q).defn := by
  unfold ownJoin; (try dsimp only); (repeat' split) <;> simp

@[simp] theorem leaveTaken_inDefn (i : StationId) (s : State) (q : Channel) :
    ((leaveTaken i s).inb.get q).defn = (s.inb.get q).defn := by
  unfold leaveTaken; (try dsimp only); (repeat' split) <;> simp

@[simp] theorem otherLeave_inDefn (l : Leave) (s : State) (q : Channel) :
    ((otherLeave l s).inb.get q).defn = (s.inb.get q).defn := by
  unfold otherLeave; (try dsimp only); (repeat' split) <;> simp

@[simp] theorem ownLeave_outDefn (l : Leave) (s : State) (q : Channel) :
    ((ownLeave l s).out.get q).defn = (s.out.get q).defn := by
  unfold ownLeave; (try dsimp only); (repeat' split) <;> simp

@[simp] theorem ownLeave_inDefn (l : Leave) (s : State) (q : Channel) :
    ((ownLeave l s).inb.get q).defn = (s.inb.get q).defn := by
  unfold ownLeave; (try dsimp only); (repeat' split) <;> simp

@[simp] theorem otherClaim_inDefn (c : Claim) (s : State) (q : Channel) :
    ((otherClaim c s).inb.get q).defn = (s.inb.get q).defn := by
  unfold otherClaim; (try dsimp only); (repeat' split) <;> simp

@[simp] theorem ownClaim_outDefn (c : Claim) (e : Option QueueEntry) (s : State) (q : Channel) :
    ((ownClaim c e s).out.get q).defn = (s.out.get q).defn := by
  unfold ownClaim; (try dsimp only); (repeat' split) <;> simp

@[simp] theorem ownClaim_inDefn (c : Claim) (e : Option QueueEntry) (s : State) (q : Channel) :
    ((ownClaim c e s).inb.get q).defn = (s.inb.get q).defn := by
  unfold ownClaim; (try dsimp only); (repeat' split) <;> simp

@[simp] theorem otherRelease_inDefn (r : Release) (s : State) (q : Channel) :
    ((otherRelease r s).inb.get q).defn = (s.inb.get q).defn := by
  unfold otherRelease; (try dsimp only); (repeat' split) <;> simp

@[simp] theorem ownRelease_outDefn (r : Release) (e : Option QueueEntry) (s : State) (q : Channel) :
    ((ownRelease r e s).out.get q).defn = (s.out.get q).defn := by
  unfold ownRelease; (try dsimp only); (repeat' split) <;> simp

@[simp] theorem ownRelease_inDefn (r : Release) (e : Option QueueEntry) (s : State) (q : Channel) :
    ((ownRelease r e s).inb.get q).defn = (s.inb.get q).defn := by
  unfold ownRelease; (try dsimp only); (repeat' split) <;> simp

@[simp] theorem otherTrigger_inDefn (t : Trigger) (s : State) (q : Channel) :
    ((otherTrigger t s).inb.get q).defn = (s.inb.get q).defn := by
  unfold otherTrigger; (try dsimp only); (repeat' split) <;> simp

@[simp] theorem enterReady_inDefn (mode : StartMode) (s : State) (q : Channel) :
    ((enterReady mode s).inb.get q).defn = (s.inb.get q).defn := by
  unfold enterReady; (try dsimp only); (repeat' split) <;> simp

@[simp] theorem ejectRises_outDefn (s : State) (q : Channel) :
    ((ejectRises s).out.get q).defn = (s.out.get q).defn := by
  unfold ejectRises; (try dsimp only); (repeat' split) <;> simp

@[simp] theorem ejectRises_inDefn (s : State) (q : Channel) :
    ((ejectRises s).inb.get q).defn = (s.inb.get q).defn := by
  unfold ejectRises; (try dsimp only); (repeat' split) <;> simp

@[simp] theorem ejectFalls_inDefn (s : State) (q : Channel) :
    ((ejectFalls s).inb.get q).defn = (s.inb.get q).defn := by
  unfold ejectFalls; (try dsimp only); (repeat' split) <;> simp

@[simp] theorem startRises_inDefn (s : State) (q : Channel) :
    ((startRises s).inb.get q).defn = (s.inb.get q).defn := by
  unfold startRises; (try dsimp only); (repeat' split) <;> simp

@[simp] theorem cutInReported_outDefn (s : State) (q : Channel) :
    ((cutInReported s).out.get q).defn = (s.out.get q).defn := by
  unfold cutInReported; (try dsimp only); (repeat' split) <;> simp

@[simp] theorem cutIn_outDefn (s : State) (q : Channel) :
    ((cutIn s).out.get q).defn = (s.out.get q).defn := by
  unfold cutIn; (try dsimp only); (repeat' split) <;> simp

@[simp] theorem skipMark_outDefn (due : MarkAt) (s : State) (q : Channel) :
    ((skipMark due s).out.get q).defn = (s.out.get q).defn := by
  unfold skipMark; (try dsimp only); (repeat' split) <;> simp

@[simp] theorem skipMark_inDefn (due : MarkAt) (s : State) (q : Channel) :
    ((skipMark due s).inb.get q).defn = (s.inb.get q).defn := by
  unfold skipMark; (try dsimp only); (repeat' split) <;> simp

@[simp] theorem startMark_outDefn (due : MarkAt) (rival : Option ArbKey) (s : State) (q : Channel) :
    ((startMark due rival s).out.get q).defn = (s.out.get q).defn := by
  unfold startMark; (try dsimp only); (repeat' split) <;> simp

@[simp] theorem startMark_inDefn (due : MarkAt) (rival : Option ArbKey) (s : State) (q : Channel) :
    ((startMark due rival s).inb.get q).defn = (s.inb.get q).defn := by
  unfold startMark; (try dsimp only); (repeat' split) <;> simp

@[simp] theorem markFallsDue_outDefn (pair : PairAt) (s : State) (q : Channel) :
    ((markFallsDue pair s).out.get q).defn = (s.out.get q).defn := by
  unfold markFallsDue; (try dsimp only); (repeat' split) <;> simp

@[simp] theorem markFallsDue_inDefn (pair : PairAt) (s : State) (q : Channel) :
    ((markFallsDue pair s).inb.get q).defn = (s.inb.get q).defn := by
  unfold markFallsDue; (try dsimp only); (repeat' split) <;> simp

@[simp] theorem boundaryComes_outDefn (s : State) (q : Channel) :
    ((boundaryComes s).out.get q).defn = (s.out.get q).defn := by
  unfold boundaryComes; (try dsimp only); (repeat' split) <;> simp

@[simp] theorem boundaryComes_inDefn (s : State) (q : Channel) :
    ((boundaryComes s).inb.get q).defn = (s.inb.get q).defn := by
  unfold boundaryComes; (try dsimp only); (repeat' split) <;> simp

@[simp] theorem joiningTimesOut_outDefn (s : State) (q : Channel) :
    ((joiningTimesOut s).out.get q).defn = (s.out.get q).defn := by
  unfold joiningTimesOut; (try dsimp only); (repeat' split) <;> simp

@[simp] theorem joiningTimesOut_inDefn (s : State) (q : Channel) :
    ((joiningTimesOut s).inb.get q).defn = (s.inb.get q).defn := by
  unfold joiningTimesOut; (try dsimp only); (repeat' split) <;> simp

@[simp] theorem rollCallStarts_inDefn (s : State) (q : Channel) :
    ((rollCallStarts s).inb.get q).defn = (s.inb.get q).defn := by
  unfold rollCallStarts; (try dsimp only); (repeat' split) <;> simp

@[simp] theorem sendInLane_outDefn (l : Lane) (pair : PairAt) (s : State) (q : Channel) :
    ((sendInLane l pair s).out.get q).defn = (s.out.get q).defn := by
  unfold sendInLane; (try dsimp only); (repeat' split) <;> simp

@[simp] theorem laneBegins_outDefn (l : Lane) (pair : PairAt) (s : State) (q : Channel) :
    ((laneBegins l pair s).out.get q).defn = (s.out.get q).defn := by
  unfold laneBegins; (try dsimp only); (repeat' split) <;> simp

@[simp] theorem gapEnds_outDefn (rival : Option ArbKey) (s : State) (q : Channel) :
    ((gapEnds rival s).out.get q).defn = (s.out.get q).defn := by
  unfold gapEnds; (try dsimp only); (repeat' split) <;> simp

@[simp] theorem readBackFails_outDefn (s : State) (q : Channel) :
    ((readBackFails s).out.get q).defn = (s.out.get q).defn := by
  unfold readBackFails; (try dsimp only); (repeat' split) <;> simp

@[simp] theorem readBackFails_inDefn (s : State) (q : Channel) :
    ((readBackFails s).inb.get q).defn = (s.inb.get q).defn := by
  unfold readBackFails; (try dsimp only); (repeat' split) <;> simp

@[simp] theorem driveLimitRuns_outDefn (s : State) (q : Channel) :
    ((driveLimitRuns s).out.get q).defn = (s.out.get q).defn := by
  unfold driveLimitRuns; (try dsimp only); (repeat' split) <;> simp

@[simp] theorem driveLimitRuns_inDefn (s : State) (q : Channel) :
    ((driveLimitRuns s).inb.get q).defn = (s.inb.get q).defn := by
  unfold driveLimitRuns; (try dsimp only); (repeat' split) <;> simp

@[simp] theorem predictRound_outDefn (s : State) (q : Channel) :
    ((predictRound s).out.get q).defn = (s.out.get q).defn := by
  unfold predictRound; (try dsimp only); (repeat' split) <;> simp

@[simp] theorem predictRound_inDefn (s : State) (q : Channel) :
    ((predictRound s).inb.get q).defn = (s.inb.get q).defn := by
  unfold predictRound; (try dsimp only); (repeat' split) <;> simp

@[simp] theorem markMissed_outDefn (s : State) (q : Channel) :
    ((markMissed s).out.get q).defn = (s.out.get q).defn := by
  unfold markMissed; (try dsimp only); (repeat' split) <;> simp

@[simp] theorem markMissed_inDefn (s : State) (q : Channel) :
    ((markMissed s).inb.get q).defn = (s.inb.get q).defn := by
  unfold markMissed; (try dsimp only); (repeat' split) <;> simp

@[simp] theorem markTimesOut_outDefn (s : State) (q : Channel) :
    ((markTimesOut s).out.get q).defn = (s.out.get q).defn := by
  unfold markTimesOut; (try dsimp only); (repeat' split) <;> simp

@[simp] theorem markTimesOut_inDefn (s : State) (q : Channel) :
    ((markTimesOut s).inb.get q).defn = (s.inb.get q).defn := by
  unfold markTimesOut; (try dsimp only); (repeat' split) <;> simp

@[simp] theorem backoffRunsOut_outDefn (s : State) (q : Channel) :
    ((backoffRunsOut s).out.get q).defn = (s.out.get q).defn := by
  unfold backoffRunsOut; (try dsimp only); (repeat' split) <;> simp

@[simp] theorem attemptTimesOut_outDefn (s : State) (q : Channel) :
    ((attemptTimesOut s).out.get q).defn = (s.out.get q).defn := by
  unfold attemptTimesOut; (try dsimp only); (repeat' split) <;> simp

@[simp] theorem attemptTimesOut_inDefn (s : State) (q : Channel) :
    ((attemptTimesOut s).inb.get q).defn = (s.inb.get q).defn := by
  unfold attemptTimesOut; (try dsimp only); (repeat' split) <;> simp

@[simp] theorem leavingTimesOut_outDefn (s : State) (q : Channel) :
    ((leavingTimesOut s).out.get q).defn = (s.out.get q).defn := by
  unfold leavingTimesOut; (try dsimp only); (repeat' split) <;> simp

@[simp] theorem leavingTimesOut_inDefn (s : State) (q : Channel) :
    ((leavingTimesOut s).inb.get q).defn = (s.inb.get q).defn := by
  unfold leavingTimesOut; (try dsimp only); (repeat' split) <;> simp

@[simp] theorem guardPeriodEnds_outDefn (s : State) (q : Channel) :
    ((guardPeriodEnds s).out.get q).defn = (s.out.get q).defn := by
  unfold guardPeriodEnds; (try dsimp only); (repeat' split) <;> simp

@[simp] theorem makeTrigger_inDefn (t : Trigger) (s : State) (q : Channel) :
    ((makeTrigger t s).inb.get q).defn = (s.inb.get q).defn := by
  unfold makeTrigger; (try dsimp only); (repeat' split) <;> simp

@[simp] theorem edge_inDefn (time : Nat) (s : State) (q : Channel) :
    ((edge time s).inb.get q).defn = (s.inb.get q).defn := by
  unfold edge; (try dsimp only); (repeat' split) <;> simp

@[simp] theorem levelsChange_inDefn (changes : BitVec 4) (time : Nat) (s : State) (q : Channel) :
    ((levelsChange changes time s).inb.get q).defn = (s.inb.get q).defn := by
  unfold levelsChange; (try dsimp only); (repeat' split) <;> simp

@[simp] theorem filterTakesEffect_inDefn (due : Nat) (s : State) (q : Channel) :
    ((filterTakesEffect due s).inb.get q).defn = (s.inb.get q).defn := by
  unfold filterTakesEffect; (try dsimp only); (repeat' split) <;> simp

@[simp] theorem linesChange_inDefn (levels : BitVec 4) (s : State) (q : Channel) :
    ((linesChange levels s).inb.get q).defn = (s.inb.get q).defn := by
  unfold linesChange; (try dsimp only); (repeat' split) <;> simp

@[simp] theorem filterRunsOut_inDefn (s : State) (q : Channel) :
    ((filterRunsOut s).inb.get q).defn = (s.inb.get q).defn := by
  unfold filterRunsOut; (try dsimp only); (repeat' split) <;> simp

@[simp] theorem setClosePending_outDefn (ch : Channel) (s : State) (q : Channel) :
    ((setClosePending ch s).out.get q).defn = (s.out.get q).defn := by
  unfold setClosePending; (try dsimp only); (repeat' split) <;> simp

@[simp] theorem rejoinNow_outDefn (s : State) (q : Channel) :
    ((rejoinNow s).out.get q).defn = (s.out.get q).defn := by
  unfold rejoinNow; (try dsimp only); (repeat' split) <;> simp

@[simp] theorem rejoinNow_inDefn (s : State) (q : Channel) :
    ((rejoinNow s).inb.get q).defn = (s.inb.get q).defn := by
  unfold rejoinNow; (try dsimp only); (repeat' split) <;> simp

@[simp] theorem onWatched_outDefn (i : RefInput) (f : State → State)
    (h : ∀ s q, ((f s).out.get q).defn = (s.out.get q).defn) (s : State) (q : Channel) :
    ((onWatched i f s).out.get q).defn = (s.out.get q).defn := by
  unfold onWatched; split <;> simp [h]

@[simp] theorem onWatched_inDefn (i : RefInput) (f : State → State)
    (h : ∀ s q, ((f s).inb.get q).defn = (s.inb.get q).defn) (s : State) (q : Channel) :
    ((onWatched i f s).inb.get q).defn = (s.inb.get q).defn := by
  unfold onWatched; split <;> simp [h]

@[simp] theorem event_outDefn (f : State → State) (h : ∀ s q, ((f s).out.get q).defn = (s.out.get q).defn)
    (s : State) (q : Channel) : ((event f s).out.get q).defn = (s.out.get q).defn := by
  unfold event; split <;> simp [h]

@[simp] theorem event_inDefn (f : State → State) (h : ∀ s q, ((f s).inb.get q).defn = (s.inb.get q).defn)
    (s : State) (q : Channel) : ((event f s).inb.get q).defn = (s.inb.get q).defn := by
  unfold event; split <;> simp [h]

@[simp] theorem hear_outDefn (p : Packet) (own : Option QueueEntry → State → State) (other : State → State)
    (h₁ : ∀ e s q, ((own e s).out.get q).defn = (s.out.get q).defn)
    (h₂ : ∀ s q, ((other s).out.get q).defn = (s.out.get q).defn) (s : State) (q : Channel) :
    ((hear p own other s).out.get q).defn = (s.out.get q).defn := by
  unfold hear; (repeat' split) <;> simp [h₁, h₂]

@[simp] theorem hear_inDefn (p : Packet) (own : Option QueueEntry → State → State) (other : State → State)
    (h₁ : ∀ e s q, ((own e s).inb.get q).defn = (s.inb.get q).defn)
    (h₂ : ∀ s q, ((other s).inb.get q).defn = (s.inb.get q).defn) (s : State) (q : Channel) :
    ((hear p own other s).inb.get q).defn = (s.inb.get q).defn := by
  unfold hear; (repeat' split) <;> simp [h₁, h₂]

@[simp] theorem serviceRequest_outDefn (b : Byte) (d : State → ServiceDecision)
    (h : ∀ s q, (((d s).2.2).out.get q).defn = (s.out.get q).defn) (s : State) (q : Channel) :
    ((serviceRequest b d s).out.get q).defn = (s.out.get q).defn := by
  unfold serviceRequest; (try dsimp only); split <;> simp [h]

@[simp] theorem serviceRequest_inDefn (b : Byte) (d : State → ServiceDecision)
    (h : ∀ s q, (((d s).2.2).inb.get q).defn = (s.inb.get q).defn) (s : State) (q : Channel) :
    ((serviceRequest b d s).inb.get q).defn = (s.inb.get q).defn := by
  unfold serviceRequest; (try dsimp only); split <;> simp [h]

@[simp] theorem decidePush_outDefn (ch : Channel) (w : Word) (s : State) (q : Channel) :
    ((decidePush ch w s).2.2.out.get q).defn = (s.out.get q).defn := by
  unfold decidePush; (try dsimp only); (repeat' split) <;> simp

@[simp] theorem decideOpenOut_outDefn (ch : Channel) (s : State) (q : Channel) :
    ((decideOpenOut ch s).2.2.out.get q).defn = (s.out.get q).defn := by
  unfold decideOpenOut; (try dsimp only); (repeat' split) <;> simp

@[simp] theorem closeConflict_outDefn (ch : Channel) (s : State) (q : Channel) :
    ((closeConflict ch s).2.2.out.get q).defn = (s.out.get q).defn := by
  unfold closeConflict; (try dsimp only); (repeat' split) <;> simp

@[simp] theorem decideCloseNow_outDefn (ch : Channel) (s : State) (q : Channel) :
    ((decideCloseNow ch s).2.2.out.get q).defn = (s.out.get q).defn := by
  unfold decideCloseNow closeUnlessDraining; (try dsimp only); (repeat' split) <;> simp

@[simp] theorem setDrain_outDefn (ch : Channel) (s : State) (q : Channel) :
    ((setDrain ch s).2.2.out.get q).defn = (s.out.get q).defn := by
  unfold setDrain; (try dsimp only); (repeat' split) <;> simp

@[simp] theorem decideCloseDrain_outDefn (ch : Channel) (s : State) (q : Channel) :
    ((decideCloseDrain ch s).2.2.out.get q).defn = (s.out.get q).defn := by
  unfold decideCloseDrain; (try dsimp only); (repeat' split) <;> simp

@[simp] theorem decideOpenIn_inDefn (ch : Channel) (s : State) (q : Channel) :
    ((decideOpenIn ch s).2.2.inb.get q).defn = (s.inb.get q).defn := by
  unfold decideOpenIn; (try dsimp only); (repeat' split) <;> simp

@[simp] theorem decideCloseIn_inDefn (ch : Channel) (s : State) (q : Channel) :
    ((decideCloseIn ch s).2.2.inb.get q).defn = (s.inb.get q).defn := by
  unfold decideCloseIn; (try dsimp only); (repeat' split) <;> simp

@[simp] theorem decideHoldIn_inDefn (ch : Channel) (s : State) (q : Channel) :
    ((decideHoldIn ch s).2.2.inb.get q).defn = (s.inb.get q).defn := by
  unfold decideHoldIn; (try dsimp only); (repeat' split) <;> simp

@[simp] theorem decideResumeIn_inDefn (ch : Channel) (s : State) (q : Channel) :
    ((decideResumeIn ch s).2.2.inb.get q).defn = (s.inb.get q).defn := by
  unfold decideResumeIn; (try dsimp only); (repeat' split) <;> simp

@[simp] theorem decideArmIn_inDefn (ch : Channel) (start : WindowStart) (stop : WindowStop) (s : State) (q : Channel) :
    ((decideArmIn ch start stop s).2.2.inb.get q).defn = (s.inb.get q).defn := by
  unfold decideArmIn; (try dsimp only); (repeat' split) <;> simp

@[simp] theorem decideDisarmIn_inDefn (ch : Channel) (s : State) (q : Channel) :
    ((decideDisarmIn ch s).2.2.inb.get q).defn = (s.inb.get q).defn := by
  unfold decideDisarmIn; (try dsimp only); (repeat' split) <;> simp

@[simp] theorem decideReadDelivery_inDefn (ch : Channel) (s : State) (q : Channel) :
    ((decideReadDelivery ch s).2.2.inb.get q).defn = (s.inb.get q).defn := by
  unfold decideReadDelivery; (try dsimp only); (repeat' split) <;> simp

@[simp] theorem decideTakePair_inDefn (ch : Channel) (s : State) (q : Channel) :
    ((decideTakePair ch s).2.2.inb.get q).defn = (s.inb.get q).defn := by
  unfold decideTakePair; (try dsimp only); (repeat' split) <;> simp

@[simp] theorem decideReturnPair_inDefn (ch : Channel) (s : State) (q : Channel) :
    ((decideReturnPair ch s).2.2.inb.get q).defn = (s.inb.get q).defn := by
  unfold decideReturnPair; (try dsimp only); (repeat' split) <;> simp

@[simp] theorem decideRejoin_outDefn (s : State) (q : Channel) :
    ((decideRejoin s).2.2.out.get q).defn = (s.out.get q).defn := by
  unfold decideRejoin; (try dsimp only); (repeat' split) <;> simp

@[simp] theorem decideRejoin_inDefn (s : State) (q : Channel) :
    ((decideRejoin s).2.2.inb.get q).defn = (s.inb.get q).defn := by
  unfold decideRejoin; (try dsimp only); (repeat' split) <;> simp

@[simp] theorem decideLeave_outDefn (s : State) (q : Channel) :
    ((decideLeave s).2.2.out.get q).defn = (s.out.get q).defn := by
  unfold decideLeave; (try dsimp only); (repeat' split) <;> simp

@[simp] theorem decideLeave_inDefn (s : State) (q : Channel) :
    ((decideLeave s).2.2.inb.get q).defn = (s.inb.get q).defn := by
  unfold decideLeave; (try dsimp only); (repeat' split) <;> simp

@[simp] theorem decideClearIsolation_outDefn (s : State) (q : Channel) :
    ((decideClearIsolation s).2.2.out.get q).defn = (s.out.get q).defn := by
  unfold decideClearIsolation; (try dsimp only); (repeat' split) <;> simp

@[simp] theorem decideClearIsolation_inDefn (s : State) (q : Channel) :
    ((decideClearIsolation s).2.2.inb.get q).defn = (s.inb.get q).defn := by
  unfold decideClearIsolation; (try dsimp only); (repeat' split) <;> simp

theorem execTakeMark_outDefn (m : Mark) (received : Nat) (s : State)
    {u : State} (h : execTakeMark m received s = .next u) (q : Channel) :
    (u.out.get q).defn = (s.out.get q).defn := by
  simp only [execTakeMark, Host.Outcome.next.injEq] at h
  subst h
  (repeat' split) <;> simp

theorem execTakeMark_inDefn (m : Mark) (received : Nat) (s : State)
    {u : State} (h : execTakeMark m received s = .next u) (q : Channel) :
    (u.inb.get q).defn = (s.inb.get q).defn := by
  simp only [execTakeMark, Host.Outcome.next.injEq] at h
  subst h
  (repeat' split) <;> simp

theorem execTakeTakeover_outDefn (t : Takeover) (received : Nat) (s : State)
    {u : State} (h : execTakeTakeover t received s = .next u) (q : Channel) :
    (u.out.get q).defn = (s.out.get q).defn := by
  simp only [execTakeTakeover, Host.Outcome.next.injEq] at h
  subst h
  (repeat' split) <;> simp

theorem execTakeTakeover_inDefn (t : Takeover) (received : Nat) (s : State)
    {u : State} (h : execTakeTakeover t received s = .next u) (q : Channel) :
    (u.inb.get q).defn = (s.inb.get q).defn := by
  simp only [execTakeTakeover, Host.Outcome.next.injEq] at h
  subst h
  (repeat' split) <;> simp

theorem execTakeHandoff_outDefn (h : Handoff) (s : State)
    {u : State} (h : execTakeHandoff h s = .next u) (q : Channel) :
    (u.out.get q).defn = (s.out.get q).defn := by
  simp only [execTakeHandoff, Host.Outcome.next.injEq] at h
  subst h
  (repeat' split) <;> simp

theorem execTakeHandoff_inDefn (h : Handoff) (s : State)
    {u : State} (h : execTakeHandoff h s = .next u) (q : Channel) :
    (u.inb.get q).defn = (s.inb.get q).defn := by
  simp only [execTakeHandoff, Host.Outcome.next.injEq] at h
  subst h
  (repeat' split) <;> simp

theorem execTakePresenceWord_outDefn (p : Presence) (s : State)
    {u : State} (h : execTakePresenceWord p s = .next u) (q : Channel) :
    (u.out.get q).defn = (s.out.get q).defn := by
  simp only [execTakePresenceWord, Host.Outcome.next.injEq] at h
  subst h
  (repeat' split) <;> simp

theorem execTakePresenceWord_inDefn (p : Presence) (s : State)
    {u : State} (h : execTakePresenceWord p s = .next u) (q : Channel) :
    (u.inb.get q).defn = (s.inb.get q).defn := by
  simp only [execTakePresenceWord, Host.Outcome.next.injEq] at h
  subst h
  (repeat' split) <;> simp

theorem execTakeJoin_outDefn (j : Join) (s : State) {u : State} (h : execTakeJoin j s = .next u) (q : Channel) :
    (u.out.get q).defn = (s.out.get q).defn := by
  simp only [execTakeJoin, Host.Outcome.next.injEq] at h
  subst h
  (repeat' split) <;> simp

theorem execTakeJoin_inDefn (j : Join) (s : State) {u : State} (h : execTakeJoin j s = .next u) (q : Channel) :
    (u.inb.get q).defn = (s.inb.get q).defn := by
  simp only [execTakeJoin, Host.Outcome.next.injEq] at h
  subst h
  (repeat' split) <;> simp

theorem execTakeLeave_outDefn (l : Leave) (s : State) {u : State} (h : execTakeLeave l s = .next u) (q : Channel) :
    (u.out.get q).defn = (s.out.get q).defn := by
  simp only [execTakeLeave, Host.Outcome.next.injEq] at h
  subst h
  (repeat' split) <;> simp

theorem execTakeLeave_inDefn (l : Leave) (s : State) {u : State} (h : execTakeLeave l s = .next u) (q : Channel) :
    (u.inb.get q).defn = (s.inb.get q).defn := by
  simp only [execTakeLeave, Host.Outcome.next.injEq] at h
  subst h
  (repeat' split) <;> simp

theorem execTakeClaim_outDefn (c : Claim) (s : State) {u : State} (h : execTakeClaim c s = .next u) (q : Channel) :
    (u.out.get q).defn = (s.out.get q).defn := by
  simp only [execTakeClaim, Host.Outcome.next.injEq] at h
  subst h
  (repeat' split) <;> simp

theorem execTakeClaim_inDefn (c : Claim) (s : State) {u : State} (h : execTakeClaim c s = .next u) (q : Channel) :
    (u.inb.get q).defn = (s.inb.get q).defn := by
  simp only [execTakeClaim, Host.Outcome.next.injEq] at h
  subst h
  (repeat' split) <;> simp

theorem execTakeRelease_outDefn (r : Release) (s : State)
    {u : State} (h : execTakeRelease r s = .next u) (q : Channel) :
    (u.out.get q).defn = (s.out.get q).defn := by
  simp only [execTakeRelease, Host.Outcome.next.injEq] at h
  subst h
  (repeat' split) <;> simp

theorem execTakeRelease_inDefn (r : Release) (s : State)
    {u : State} (h : execTakeRelease r s = .next u) (q : Channel) :
    (u.inb.get q).defn = (s.inb.get q).defn := by
  simp only [execTakeRelease, Host.Outcome.next.injEq] at h
  subst h
  (repeat' split) <;> simp

theorem execTakeSample_outDefn (p : Sample) (s : State) {u : State} (h : execTakeSample p s = .next u) (q : Channel) :
    (u.out.get q).defn = (s.out.get q).defn := by
  simp only [execTakeSample, Host.Outcome.next.injEq] at h
  subst h
  (repeat' split) <;> simp

theorem execTakeSample_inDefn (p : Sample) (s : State) {u : State} (h : execTakeSample p s = .next u) (q : Channel) :
    (u.inb.get q).defn = (s.inb.get q).defn := by
  simp only [execTakeSample, Host.Outcome.next.injEq] at h
  subst h
  (repeat' split) <;> simp

theorem execTakeTrigger_outDefn (t : Trigger) (s : State)
    {u : State} (h : execTakeTrigger t s = .next u) (q : Channel) :
    (u.out.get q).defn = (s.out.get q).defn := by
  simp only [execTakeTrigger, Host.Outcome.next.injEq] at h
  subst h
  (repeat' split) <;> simp

theorem execTakeTrigger_inDefn (t : Trigger) (s : State)
    {u : State} (h : execTakeTrigger t s = .next u) (q : Channel) :
    (u.inb.get q).defn = (s.inb.get q).defn := by
  simp only [execTakeTrigger, Host.Outcome.next.injEq] at h
  subst h
  (repeat' split) <;> simp

theorem execFailedPacketReceived_outDefn (heard : List Byte) (s : State)
    {u : State} (h : execFailedPacketReceived heard s = .next u) (q : Channel) :
    (u.out.get q).defn = (s.out.get q).defn := by
  simp only [execFailedPacketReceived, Host.Outcome.next.injEq] at h
  subst h
  (repeat' split) <;> simp

theorem execFailedPacketReceived_inDefn (heard : List Byte) (s : State)
    {u : State} (h : execFailedPacketReceived heard s = .next u) (q : Channel) :
    (u.inb.get q).defn = (s.inb.get q).defn := by
  simp only [execFailedPacketReceived, Host.Outcome.next.injEq] at h
  subst h
  (repeat' split) <;> simp

theorem execEjectRise_outDefn (s : State) {u : State} (h : execEjectRise s = .next u) (q : Channel) :
    (u.out.get q).defn = (s.out.get q).defn := by
  simp only [execEjectRise, Host.Outcome.next.injEq] at h
  subst h
  (repeat' split) <;> simp

theorem execEjectRise_inDefn (s : State) {u : State} (h : execEjectRise s = .next u) (q : Channel) :
    (u.inb.get q).defn = (s.inb.get q).defn := by
  simp only [execEjectRise, Host.Outcome.next.injEq] at h
  subst h
  (repeat' split) <;> simp

theorem execEjectFall_outDefn (s : State) {u : State} (h : execEjectFall s = .next u) (q : Channel) :
    (u.out.get q).defn = (s.out.get q).defn := by
  simp only [execEjectFall, Host.Outcome.next.injEq] at h
  subst h
  (repeat' split) <;> simp

theorem execEjectFall_inDefn (s : State) {u : State} (h : execEjectFall s = .next u) (q : Channel) :
    (u.inb.get q).defn = (s.inb.get q).defn := by
  simp only [execEjectFall, Host.Outcome.next.injEq] at h
  subst h
  (repeat' split) <;> simp

theorem execStartLineRise_outDefn (s : State) {u : State} (h : execStartLineRise s = .next u) (q : Channel) :
    (u.out.get q).defn = (s.out.get q).defn := by
  simp only [execStartLineRise, Host.Outcome.next.injEq] at h
  subst h
  (repeat' split) <;> simp

theorem execStartLineRise_inDefn (s : State) {u : State} (h : execStartLineRise s = .next u) (q : Channel) :
    (u.inb.get q).defn = (s.inb.get q).defn := by
  simp only [execStartLineRise, Host.Outcome.next.injEq] at h
  subst h
  (repeat' split) <;> simp

theorem execReferenceAppears_outDefn (i : RefInput) (s : State)
    {u : State} (h : execReferenceAppears i s = .next u) (q : Channel) :
    (u.out.get q).defn = (s.out.get q).defn := by
  simp only [execReferenceAppears, Host.Outcome.next.injEq] at h
  subst h
  (repeat' split) <;> simp

theorem execReferenceLost_outDefn (i : RefInput) (s : State)
    {u : State} (h : execReferenceLost i s = .next u) (q : Channel) :
    (u.out.get q).defn = (s.out.get q).defn := by
  simp only [execReferenceLost, Host.Outcome.next.injEq] at h
  subst h
  (repeat' split) <;> simp

theorem execAcquisitionComplete_outDefn (s : State)
    {u : State} (h : execAcquisitionComplete s = .next u) (q : Channel) :
    (u.out.get q).defn = (s.out.get q).defn := by
  simp only [execAcquisitionComplete, Host.Outcome.next.injEq] at h
  subst h
  (repeat' split) <;> simp

theorem execHoldoverExpiry_outDefn (s : State) {u : State} (h : execHoldoverExpiry s = .next u) (q : Channel) :
    (u.out.get q).defn = (s.out.get q).defn := by
  simp only [execHoldoverExpiry, Host.Outcome.next.injEq] at h
  subst h
  (repeat' split) <;> simp

theorem execRackTimeHoldEnd_outDefn (s : State) {u : State} (h : execRackTimeHoldEnd s = .next u) (q : Channel) :
    (u.out.get q).defn = (s.out.get q).defn := by
  simp only [execRackTimeHoldEnd, Host.Outcome.next.injEq] at h
  subst h
  (repeat' split) <;> simp

theorem execCutIn_outDefn (s : State) {u : State} (h : execCutIn s = .next u) (q : Channel) :
    (u.out.get q).defn = (s.out.get q).defn := by
  simp only [execCutIn, Host.Outcome.next.injEq] at h
  subst h
  (repeat' split) <;> simp

theorem execCutOut_outDefn (s : State) {u : State} (h : execCutOut s = .next u) (q : Channel) :
    (u.out.get q).defn = (s.out.get q).defn := by
  simp only [execCutOut, Host.Outcome.next.injEq] at h
  subst h
  (repeat' split) <;> simp

theorem execMarkDue_outDefn (pair : PairAt) (s : State) {u : State} (h : execMarkDue pair s = .next u) (q : Channel) :
    (u.out.get q).defn = (s.out.get q).defn := by
  simp only [execMarkDue, Host.Outcome.next.injEq] at h
  subst h
  (repeat' split) <;> simp

theorem execMarkDue_inDefn (pair : PairAt) (s : State) {u : State} (h : execMarkDue pair s = .next u) (q : Channel) :
    (u.inb.get q).defn = (s.inb.get q).defn := by
  simp only [execMarkDue, Host.Outcome.next.injEq] at h
  subst h
  (repeat' split) <;> simp

theorem execRoundBoundary_outDefn (s : State) {u : State} (h : execRoundBoundary s = .next u) (q : Channel) :
    (u.out.get q).defn = (s.out.get q).defn := by
  simp only [execRoundBoundary, Host.Outcome.next.injEq] at h
  subst h
  (repeat' split) <;> simp

theorem execRoundBoundary_inDefn (s : State) {u : State} (h : execRoundBoundary s = .next u) (q : Channel) :
    (u.inb.get q).defn = (s.inb.get q).defn := by
  simp only [execRoundBoundary, Host.Outcome.next.injEq] at h
  subst h
  (repeat' split) <;> simp

theorem execJoiningTimeout_outDefn (s : State) {u : State} (h : execJoiningTimeout s = .next u) (q : Channel) :
    (u.out.get q).defn = (s.out.get q).defn := by
  simp only [execJoiningTimeout, Host.Outcome.next.injEq] at h
  subst h
  (repeat' split) <;> simp

theorem execJoiningTimeout_inDefn (s : State) {u : State} (h : execJoiningTimeout s = .next u) (q : Channel) :
    (u.inb.get q).defn = (s.inb.get q).defn := by
  simp only [execJoiningTimeout, Host.Outcome.next.injEq] at h
  subst h
  (repeat' split) <;> simp

theorem execRollCallStart_outDefn (s : State) {u : State} (h : execRollCallStart s = .next u) (q : Channel) :
    (u.out.get q).defn = (s.out.get q).defn := by
  simp only [execRollCallStart, Host.Outcome.next.injEq] at h
  subst h
  (repeat' split) <;> simp

theorem execRollCallStart_inDefn (s : State) {u : State} (h : execRollCallStart s = .next u) (q : Channel) :
    (u.inb.get q).defn = (s.inb.get q).defn := by
  simp only [execRollCallStart, Host.Outcome.next.injEq] at h
  subst h
  (repeat' split) <;> simp

theorem execRollCallPosition_outDefn (pair : PairAt) (s : State)
    {u : State} (h : execRollCallPosition pair s = .next u) (q : Channel) :
    (u.out.get q).defn = (s.out.get q).defn := by
  simp only [execRollCallPosition, Host.Outcome.next.injEq] at h
  subst h
  (repeat' split) <;> simp

theorem execLaneStart_outDefn (l : Lane) (pair : PairAt) (s : State)
    {u : State} (h : execLaneStart l pair s = .next u) (q : Channel) :
    (u.out.get q).defn = (s.out.get q).defn := by
  simp only [execLaneStart, Host.Outcome.next.injEq] at h
  subst h
  (repeat' split) <;> simp

theorem execContentionOpportunity_outDefn (k : Fin 4) (rival : Option ArbKey) (s : State)
    {u : State} (h : execContentionOpportunity k rival s = .next u) (q : Channel) :
    (u.out.get q).defn = (s.out.get q).defn := by
  simp only [execContentionOpportunity, Host.Outcome.next.injEq] at h
  subst h
  (repeat' split) <;> simp

theorem execQuietGapEnd_outDefn (rival : Option ArbKey) (s : State)
    {u : State} (h : execQuietGapEnd rival s = .next u) (q : Channel) :
    (u.out.get q).defn = (s.out.get q).defn := by
  simp only [execQuietGapEnd, Host.Outcome.next.injEq] at h
  subst h
  (repeat' split) <;> simp

theorem execReadBackFailed_outDefn (s : State) {u : State} (h : execReadBackFailed s = .next u) (q : Channel) :
    (u.out.get q).defn = (s.out.get q).defn := by
  simp only [execReadBackFailed, Host.Outcome.next.injEq] at h
  subst h
  (repeat' split) <;> simp

theorem execReadBackFailed_inDefn (s : State) {u : State} (h : execReadBackFailed s = .next u) (q : Channel) :
    (u.inb.get q).defn = (s.inb.get q).defn := by
  simp only [execReadBackFailed, Host.Outcome.next.injEq] at h
  subst h
  (repeat' split) <;> simp

theorem execDriveLimitCutOff_outDefn (s : State) {u : State} (h : execDriveLimitCutOff s = .next u) (q : Channel) :
    (u.out.get q).defn = (s.out.get q).defn := by
  simp only [execDriveLimitCutOff, Host.Outcome.next.injEq] at h
  subst h
  (repeat' split) <;> simp

theorem execDriveLimitCutOff_inDefn (s : State) {u : State} (h : execDriveLimitCutOff s = .next u) (q : Channel) :
    (u.inb.get q).defn = (s.inb.get q).defn := by
  simp only [execDriveLimitCutOff, Host.Outcome.next.injEq] at h
  subst h
  (repeat' split) <;> simp

theorem execRepeaterCutOff_outDefn (s : State) {u : State} (h : execRepeaterCutOff s = .next u) (q : Channel) :
    (u.out.get q).defn = (s.out.get q).defn := by
  simp only [execRepeaterCutOff, Host.Outcome.next.injEq] at h
  subst h
  (repeat' split) <;> simp

theorem execMissedMark_outDefn (s : State) {u : State} (h : execMissedMark s = .next u) (q : Channel) :
    (u.out.get q).defn = (s.out.get q).defn := by
  simp only [execMissedMark, Host.Outcome.next.injEq] at h
  subst h
  (repeat' split) <;> simp

theorem execMissedMark_inDefn (s : State) {u : State} (h : execMissedMark s = .next u) (q : Channel) :
    (u.inb.get q).defn = (s.inb.get q).defn := by
  simp only [execMissedMark, Host.Outcome.next.injEq] at h
  subst h
  (repeat' split) <;> simp

theorem execMarkTimeout_outDefn (s : State) {u : State} (h : execMarkTimeout s = .next u) (q : Channel) :
    (u.out.get q).defn = (s.out.get q).defn := by
  simp only [execMarkTimeout, Host.Outcome.next.injEq] at h
  subst h
  (repeat' split) <;> simp

theorem execMarkTimeout_inDefn (s : State) {u : State} (h : execMarkTimeout s = .next u) (q : Channel) :
    (u.inb.get q).defn = (s.inb.get q).defn := by
  simp only [execMarkTimeout, Host.Outcome.next.injEq] at h
  subst h
  (repeat' split) <;> simp

theorem execBackoffExpiry_outDefn (s : State) {u : State} (h : execBackoffExpiry s = .next u) (q : Channel) :
    (u.out.get q).defn = (s.out.get q).defn := by
  simp only [execBackoffExpiry, Host.Outcome.next.injEq] at h
  subst h
  (repeat' split) <;> simp

theorem execUnframedSourceTimeout_outDefn (s : State)
    {u : State} (h : execUnframedSourceTimeout s = .next u) (q : Channel) :
    (u.out.get q).defn = (s.out.get q).defn := by
  simp only [execUnframedSourceTimeout, Host.Outcome.next.injEq] at h
  subst h
  (repeat' split) <;> simp

theorem execEmptyTrunkListenExpiry_outDefn (s : State)
    {u : State} (h : execEmptyTrunkListenExpiry s = .next u) (q : Channel) :
    (u.out.get q).defn = (s.out.get q).defn := by
  simp only [execEmptyTrunkListenExpiry, Host.Outcome.next.injEq] at h
  subst h
  (repeat' split) <;> simp

theorem execEmptyTrunkAttemptTimeout_outDefn (s : State)
    {u : State} (h : execEmptyTrunkAttemptTimeout s = .next u) (q : Channel) :
    (u.out.get q).defn = (s.out.get q).defn := by
  simp only [execEmptyTrunkAttemptTimeout, Host.Outcome.next.injEq] at h
  subst h
  (repeat' split) <;> simp

theorem execEmptyTrunkAttemptTimeout_inDefn (s : State)
    {u : State} (h : execEmptyTrunkAttemptTimeout s = .next u) (q : Channel) :
    (u.inb.get q).defn = (s.inb.get q).defn := by
  simp only [execEmptyTrunkAttemptTimeout, Host.Outcome.next.injEq] at h
  subst h
  (repeat' split) <;> simp

theorem execLeavingTimeout_outDefn (s : State) {u : State} (h : execLeavingTimeout s = .next u) (q : Channel) :
    (u.out.get q).defn = (s.out.get q).defn := by
  simp only [execLeavingTimeout, Host.Outcome.next.injEq] at h
  subst h
  (repeat' split) <;> simp

theorem execLeavingTimeout_inDefn (s : State) {u : State} (h : execLeavingTimeout s = .next u) (q : Channel) :
    (u.inb.get q).defn = (s.inb.get q).defn := by
  simp only [execLeavingTimeout, Host.Outcome.next.injEq] at h
  subst h
  (repeat' split) <;> simp

theorem execGuardPeriodEnd_outDefn (s : State) {u : State} (h : execGuardPeriodEnd s = .next u) (q : Channel) :
    (u.out.get q).defn = (s.out.get q).defn := by
  simp only [execGuardPeriodEnd, Host.Outcome.next.injEq] at h
  subst h
  (repeat' split) <;> simp

theorem execTriggerLineChange_outDefn (levels : BitVec 4) (s : State)
    {u : State} (h : execTriggerLineChange levels s = .next u) (q : Channel) :
    (u.out.get q).defn = (s.out.get q).defn := by
  simp only [execTriggerLineChange, Host.Outcome.next.injEq] at h
  subst h
  (repeat' split) <;> simp

theorem execTriggerLineChange_inDefn (levels : BitVec 4) (s : State)
    {u : State} (h : execTriggerLineChange levels s = .next u) (q : Channel) :
    (u.inb.get q).defn = (s.inb.get q).defn := by
  simp only [execTriggerLineChange, Host.Outcome.next.injEq] at h
  subst h
  (repeat' split) <;> simp

theorem execFilterTimeExpiry_outDefn (s : State) {u : State} (h : execFilterTimeExpiry s = .next u) (q : Channel) :
    (u.out.get q).defn = (s.out.get q).defn := by
  simp only [execFilterTimeExpiry, Host.Outcome.next.injEq] at h
  subst h
  (repeat' split) <;> simp

theorem execFilterTimeExpiry_inDefn (s : State) {u : State} (h : execFilterTimeExpiry s = .next u) (q : Channel) :
    (u.inb.get q).defn = (s.inb.get q).defn := by
  simp only [execFilterTimeExpiry, Host.Outcome.next.injEq] at h
  subst h
  (repeat' split) <;> simp

theorem execBlankingEnd_outDefn (s : State) {u : State} (h : execBlankingEnd s = .next u) (q : Channel) :
    (u.out.get q).defn = (s.out.get q).defn := by
  simp only [execBlankingEnd, Host.Outcome.next.injEq] at h
  subst h
  (repeat' split) <;> simp

theorem execPush_outDefn (ch : Channel) (w : Word) (s : State)
    {u : State} (h : execPush ch w s = .next u) (q : Channel) :
    (u.out.get q).defn = (s.out.get q).defn := by
  simp only [execPush, channelRequest, Host.Outcome.next.injEq] at h
  subst h
  (repeat' split) <;> simp

theorem execOpenOut_outDefn (ch : Channel) (s : State) {u : State} (h : execOpenOut ch s = .next u) (q : Channel) :
    (u.out.get q).defn = (s.out.get q).defn := by
  simp only [execOpenOut, channelRequest, Host.Outcome.next.injEq] at h
  subst h
  (repeat' split) <;> simp

theorem execCloseNow_outDefn (ch : Channel) (s : State) {u : State} (h : execCloseNow ch s = .next u) (q : Channel) :
    (u.out.get q).defn = (s.out.get q).defn := by
  simp only [execCloseNow, channelRequest, Host.Outcome.next.injEq] at h
  subst h
  (repeat' split) <;> simp

theorem execCloseDrain_outDefn (ch : Channel) (s : State)
    {u : State} (h : execCloseDrain ch s = .next u) (q : Channel) :
    (u.out.get q).defn = (s.out.get q).defn := by
  simp only [execCloseDrain, channelRequest, Host.Outcome.next.injEq] at h
  subst h
  (repeat' split) <;> simp

theorem execOpenIn_inDefn (ch : Channel) (s : State) {u : State} (h : execOpenIn ch s = .next u) (q : Channel) :
    (u.inb.get q).defn = (s.inb.get q).defn := by
  simp only [execOpenIn, channelRequest, Host.Outcome.next.injEq] at h
  subst h
  (repeat' split) <;> simp

theorem execCloseIn_inDefn (ch : Channel) (s : State) {u : State} (h : execCloseIn ch s = .next u) (q : Channel) :
    (u.inb.get q).defn = (s.inb.get q).defn := by
  simp only [execCloseIn, channelRequest, Host.Outcome.next.injEq] at h
  subst h
  (repeat' split) <;> simp

theorem execHoldIn_inDefn (ch : Channel) (s : State) {u : State} (h : execHoldIn ch s = .next u) (q : Channel) :
    (u.inb.get q).defn = (s.inb.get q).defn := by
  simp only [execHoldIn, channelRequest, Host.Outcome.next.injEq] at h
  subst h
  (repeat' split) <;> simp

theorem execResumeIn_inDefn (ch : Channel) (s : State) {u : State} (h : execResumeIn ch s = .next u) (q : Channel) :
    (u.inb.get q).defn = (s.inb.get q).defn := by
  simp only [execResumeIn, channelRequest, Host.Outcome.next.injEq] at h
  subst h
  (repeat' split) <;> simp

theorem execArmIn_inDefn (ch : Channel) (start : WindowStart) (stop : WindowStop) (s : State)
    {u : State} (h : execArmIn ch start stop s = .next u) (q : Channel) :
    (u.inb.get q).defn = (s.inb.get q).defn := by
  simp only [execArmIn, channelRequest, Host.Outcome.next.injEq] at h
  subst h
  (repeat' split) <;> simp

theorem execDisarmIn_inDefn (ch : Channel) (s : State) {u : State} (h : execDisarmIn ch s = .next u) (q : Channel) :
    (u.inb.get q).defn = (s.inb.get q).defn := by
  simp only [execDisarmIn, channelRequest, Host.Outcome.next.injEq] at h
  subst h
  (repeat' split) <;> simp

theorem execReadDelivery_inDefn (ch : Channel) (s : State)
    {u : State} (h : execReadDelivery ch s = .next u) (q : Channel) :
    (u.inb.get q).defn = (s.inb.get q).defn := by
  simp only [execReadDelivery, channelRequest, Host.Outcome.next.injEq] at h
  subst h
  (repeat' split) <;> simp

theorem execTakePair_inDefn (ch : Channel) (s : State) {u : State} (h : execTakePair ch s = .next u) (q : Channel) :
    (u.inb.get q).defn = (s.inb.get q).defn := by
  simp only [execTakePair, channelRequest, Host.Outcome.next.injEq] at h
  subst h
  (repeat' split) <;> simp

theorem execReturnPair_inDefn (ch : Channel) (s : State)
    {u : State} (h : execReturnPair ch s = .next u) (q : Channel) :
    (u.inb.get q).defn = (s.inb.get q).defn := by
  simp only [execReturnPair, channelRequest, Host.Outcome.next.injEq] at h
  subst h
  (repeat' split) <;> simp

theorem execRejoin_outDefn (s : State) {u : State} (h : execRejoin s = .next u) (q : Channel) :
    (u.out.get q).defn = (s.out.get q).defn := by
  simp only [execRejoin, Host.Outcome.next.injEq] at h
  subst h
  (repeat' split) <;> simp

theorem execRejoin_inDefn (s : State) {u : State} (h : execRejoin s = .next u) (q : Channel) :
    (u.inb.get q).defn = (s.inb.get q).defn := by
  simp only [execRejoin, Host.Outcome.next.injEq] at h
  subst h
  (repeat' split) <;> simp

theorem execLeave_outDefn (s : State) {u : State} (h : execLeave s = .next u) (q : Channel) :
    (u.out.get q).defn = (s.out.get q).defn := by
  simp only [execLeave, Host.Outcome.next.injEq] at h
  subst h
  (repeat' split) <;> simp

theorem execLeave_inDefn (s : State) {u : State} (h : execLeave s = .next u) (q : Channel) :
    (u.inb.get q).defn = (s.inb.get q).defn := by
  simp only [execLeave, Host.Outcome.next.injEq] at h
  subst h
  (repeat' split) <;> simp

theorem execClearIsolation_outDefn (s : State) {u : State} (h : execClearIsolation s = .next u) (q : Channel) :
    (u.out.get q).defn = (s.out.get q).defn := by
  simp only [execClearIsolation, Host.Outcome.next.injEq] at h
  subst h
  (repeat' split) <;> simp

theorem execClearIsolation_inDefn (s : State) {u : State} (h : execClearIsolation s = .next u) (q : Channel) :
    (u.inb.get q).defn = (s.inb.get q).defn := by
  simp only [execClearIsolation, Host.Outcome.next.injEq] at h
  subst h
  (repeat' split) <;> simp

end Sys2Proof.Machine
end

