-- ==== Sys2Proof/Laws/Memory.lean ====
section
/-! SUPPORT. Sample Memory: every operation keeps the canonical form, and what is read after a write. -/
namespace Sys2Proof.Machine

/-- A canonical list from a higher bound is one from a lower bound. -/
theorem wfFrom_mono {m : Memory} {a b : Nat} (h : a ≤ b) (hm : Memory.wfFrom b m = true) : Memory.wfFrom a m = true := by
  cases m with
  | nil => rfl
  | cons c rest =>
    obtain ⟨k, v⟩ := c
    simp only [Memory.wfFrom, Bool.and_eq_true, decide_eq_true_eq] at hm ⊢
    exact ⟨⟨by omega, hm.1.2⟩, hm.2⟩

theorem writeByte_wfFrom (m : Memory) (low a : Nat) (b : Byte) (h : low ≤ a) (hm : Memory.wfFrom low m = true) :
    Memory.wfFrom low (writeByte m a b) = true := by
  induction m generalizing low with
  | nil =>
    simp only [writeByte]
    split
    · rfl
    · next hb =>
      simp only [Memory.wfFrom, Bool.and_eq_true, decide_eq_true_eq]
      exact ⟨⟨h, hb⟩, trivial⟩
  | cons c rest ih =>
    obtain ⟨k, v⟩ := c
    simp only [Memory.wfFrom, Bool.and_eq_true, decide_eq_true_eq] at hm
    obtain ⟨⟨hk, hv⟩, hr⟩ := hm
    simp only [writeByte]
    split
    · next hlt =>
      split
      · simp only [Memory.wfFrom, Bool.and_eq_true, decide_eq_true_eq]
        exact ⟨⟨hk, hv⟩, hr⟩
      · next hb =>
        simp only [Memory.wfFrom, Bool.and_eq_true, decide_eq_true_eq]
        exact ⟨⟨h, hb⟩, ⟨by omega, hv⟩, hr⟩
    · next hlt =>
      split
      · next he =>
        subst he
        split
        · exact wfFrom_mono (by omega) hr
        · next hb =>
          simp only [Memory.wfFrom, Bool.and_eq_true, decide_eq_true_eq]
          exact ⟨⟨h, hb⟩, hr⟩
      · next hne =>
        simp only [Memory.wfFrom, Bool.and_eq_true, decide_eq_true_eq]
        exact ⟨⟨hk, hv⟩, ih (k + 1) (by omega) hr⟩

/-- Writing a byte keeps the canonical form. -/
theorem writeByte_wf {m : Memory} (a : Nat) (b : Byte) (h : Memory.wf m = true) : Memory.wf (writeByte m a b) = true :=
  writeByte_wfFrom m 0 a b (Nat.zero_le a) h

theorem readByte_below {m : Memory} {low a : Nat} (hm : Memory.wfFrom low m = true) (h : a < low) : readByte m a = 0 := by
  induction m generalizing low with
  | nil => rfl
  | cons c rest ih =>
    obtain ⟨k, v⟩ := c
    simp only [Memory.wfFrom, Bool.and_eq_true, decide_eq_true_eq] at hm
    obtain ⟨⟨hk, _⟩, hr⟩ := hm
    have hne : k ≠ a := by omega
    simp only [readByte, hne, if_false]
    exact ih hr (by omega)

theorem readByte_writeByte_from (m : Memory) (low a : Nat) (b : Byte) (x : Nat) (hm : Memory.wfFrom low m = true) :
    readByte (writeByte m a b) x = if x = a then b else readByte m x := by
  induction m generalizing low with
  | nil =>
    simp only [writeByte]
    split
    · next hb => simp [readByte, hb]
    · simp only [readByte]
      by_cases hx : x = a
      · simp [hx]
      · simp [hx, Ne.symm hx]
  | cons c rest ih =>
    obtain ⟨k, v⟩ := c
    simp only [Memory.wfFrom, Bool.and_eq_true, decide_eq_true_eq] at hm
    obtain ⟨⟨hk, hv⟩, hr⟩ := hm
    simp only [writeByte]
    split
    · next hlt =>
      split
      · next hb =>
        by_cases hx : x = a
        · subst hx
          have hka : k ≠ x := by omega
          have h0 : readByte rest x = 0 := readByte_below hr (by omega)
          simp [readByte, hka, hb, h0]
        · simp [hx]
      · by_cases hx : x = a
        · simp [readByte, hx]
        · simp [readByte, hx, Ne.symm hx]
    · split
      · next he =>
        subst he
        split
        · next hb =>
          by_cases hx : x = a
          · subst hx
            have h0 : readByte rest x = 0 := readByte_below hr (by omega)
            simp [hb, h0]
          · simp [readByte, hx, Ne.symm hx]
        · by_cases hx : x = a
          · simp [readByte, hx]
          · simp [readByte, hx, Ne.symm hx]
      · next hne =>
        simp only [readByte, ih (k + 1) hr]
        by_cases hx : x = a
        · subst hx
          simp [Ne.symm hne]
        · simp [hx]

/-- Reading a byte after writing one. -/
theorem readByte_writeByte {m : Memory} (a : Nat) (b : Byte) (x : Nat) (h : Memory.wf m = true) :
    readByte (writeByte m a b) x = if x = a then b else readByte m x :=
  readByte_writeByte_from m 0 a b x h

/-- Writing a word keeps the canonical form. -/
theorem writeWord_wf {m : Memory} (a : Nat) (w : Word) (h : Memory.wf m = true) : Memory.wf (writeWord m a w) = true := by
  unfold writeWord
  split
  · exact writeByte_wf _ _ (writeByte_wf _ _ (writeByte_wf _ _ (writeByte_wf _ _ h)))
  · exact h

/-- A byte outside the written word reads as before. -/
theorem readByte_writeWord_ne {m : Memory} (a : Nat) (w : Word) (x : Nat) (h : Memory.wf m = true) (hx : x / 4 ≠ a) :
    readByte (writeWord m a w) x = readByte m x := by
  unfold writeWord
  split
  · rw [readByte_writeByte _ _ _ (writeByte_wf _ _ (writeByte_wf _ _ (writeByte_wf _ _ h))),
      readByte_writeByte _ _ _ (writeByte_wf _ _ (writeByte_wf _ _ h)),
      readByte_writeByte _ _ _ (writeByte_wf _ _ h), readByte_writeByte _ _ _ h]
    rw [if_neg (by omega), if_neg (by omega), if_neg (by omega), if_neg (by omega)]
  · rfl

/-- A word of the memory reads as it was written. -/
theorem readWord_writeWord {m : Memory} (a : Nat) (w : Word) (h : Memory.wf m = true) (ha : a < Config.memoryWords) :
    readWord (writeWord m a w) a = w := by
  have e : ∀ x, readByte (writeWord m a w) x = if x = 4 * a + 3 then wordByte w 3 else if x = 4 * a + 2 then wordByte w 2
      else if x = 4 * a + 1 then wordByte w 1 else if x = 4 * a then wordByte w 0 else readByte m x := by
    intro x
    unfold writeWord
    rw [if_pos ha, readByte_writeByte _ _ _ (writeByte_wf _ _ (writeByte_wf _ _ (writeByte_wf _ _ h))),
      readByte_writeByte _ _ _ (writeByte_wf _ _ (writeByte_wf _ _ h)),
      readByte_writeByte _ _ _ (writeByte_wf _ _ h), readByte_writeByte _ _ _ h]
  unfold readWord
  simp only [e]
  have h1 : ¬ (4 * a = 4 * a + 3) := by omega
  have h2 : ¬ (4 * a = 4 * a + 2) := by omega
  have h3 : ¬ (4 * a = 4 * a + 1) := by omega
  have h4 : ¬ (4 * a + 1 = 4 * a + 3) := by omega
  have h5 : ¬ (4 * a + 1 = 4 * a + 2) := by omega
  have h6 : ¬ (4 * a + 2 = 4 * a + 3) := by omega
  simp only [h1, h2, h3, h4, h5, h6, if_true, if_false]
  apply BitVec.eq_of_getLsbD_eq
  intro i hi
  simp only [wordByte, BitVec.truncate_eq_setWidth, BitVec.getLsbD_append, BitVec.getLsbD_setWidth,
    BitVec.getLsbD_ushiftRight]
  repeat' split
  all_goals
    rw [decide_eq_true (by omega), Bool.true_and]
    congr 1
    omega

/-- Writing into an area keeps the canonical form. -/
theorem writeArea_wf (base size pos : Nat) (ws : List Word) {m : Memory} (h : Memory.wf m = true) :
    Memory.wf (writeArea base size pos ws m) = true := by
  induction ws generalizing pos m with
  | nil => exact h
  | cons w ws ih => exact ih (pos + 1) (writeWord_wf _ _ h)

/-- A byte outside an area reads as before a write into the area. -/
theorem readByte_writeArea (base size pos : Nat) (ws : List Word) {m : Memory} (x : Nat) (h : Memory.wf m = true)
    (hs : 0 < size) (hx : x / 4 < base ∨ base + size ≤ x / 4) :
    readByte (writeArea base size pos ws m) x = readByte m x := by
  induction ws generalizing pos m with
  | nil => rfl
  | cons w ws ih =>
    have hm := Nat.mod_lt pos hs
    exact (ih (pos + 1) (writeWord_wf _ _ h)).trans (readByte_writeWord_ne _ _ _ h (by omega))

theorem storeRing_wf (p : Sample) (failed : Bool) (c : InChannel) {m : Memory} (h : Memory.wf m = true) :
    Memory.wf (storeRing p failed c m).mem = true := by
  unfold storeRing
  dsimp only
  split <;> exact writeArea_wf _ _ _ _ h

theorem storePair_wf (p : Sample) (failed : Bool) (c : InChannel) {m : Memory} (h : Memory.wf m = true) :
    Memory.wf (storePair p failed c m).mem = true := by
  unfold storePair
  dsimp only
  split
  · split
    · exact writeArea_wf _ _ _ _ h
    · exact h
  · exact writeArea_wf _ _ _ _ h

/-- Storing a packet keeps the canonical form. -/
theorem storePacket_wf (p : Sample) (failed : Bool) (c : InChannel) {m : Memory} (h : Memory.wf m = true) :
    Memory.wf (storePacket p failed c m).mem = true := by
  unfold storePacket
  split
  · exact storeRing_wf p failed c h
  · exact storePair_wf p failed c h

/-- The taking of a packet by a channel keeps the canonical form. -/
theorem takePacket_wf (p : Sample) (failed : Bool) (c : InChannel) {m : Memory} (h : Memory.wf m = true) :
    Memory.wf (takePacket p failed c m).2.1 = true := by
  unfold takePacket
  dsimp only
  repeat' split
  all_goals first | exact h | exact storePacket_wf _ _ _ h

end Sys2Proof.Machine
end

