-- ==== Sys2Proof/Laws/Offer.lean ====
section
/-! SUPPORT. What an opportunity offers, and the position that a tick of the round lies in. -/
namespace Sys2Proof.Machine

/-- TRIGGER stands behind HANDOFF and TAKEOVER and ahead of the other entries (Table 1-3). -/
theorem classCode_lt_trigger (x : QueueEntry) :
    classCode (entryClass x) < classCode .trigger ↔ entryClass x = .handoff ∨ entryClass x = .takeover := by
  cases x <;> simp [entryClass, classCode]

/-- The best candidate is the queue's head or the pending TRIGGER (R13). -/
theorem candidate_eq_some (s : State) (p : Packet) (e : Option QueueEntry) (c : ArbClass) :
    candidate s = some (p, e, c) ↔
      (∃ x rest, s.trunk.queue = x :: rest ∧ p = entryPacket x s ∧ e = some x ∧ c = entryClass x
        ∧ (s.trig.pendingTrigger = none ∨ entryClass x = .handoff ∨ entryClass x = .takeover))
      ∨ (∃ k, s.trig.pendingTrigger = some k ∧ p = .trigger k ∧ e = none ∧ c = .trigger
        ∧ ∀ x rest, s.trunk.queue = x :: rest → entryClass x ≠ .handoff ∧ entryClass x ≠ .takeover) := by
  unfold candidate
  rcases hq : s.trunk.queue with _ | ⟨x, rest⟩ <;> rcases ht : s.trig.pendingTrigger with _ | k
  · simp
  · simp
    constructor
    · rintro ⟨rfl, rfl, rfl⟩
      simp
    · intro h
      grind
  · simp
    grind
  · by_cases h : entryClass x = .handoff ∨ entryClass x = .takeover
    · simp [classCode_lt_trigger, h]
      grind
    · simp [classCode_lt_trigger, h]
      grind

/-- There is no candidate exactly where nothing waits. -/
theorem candidate_eq_none (s : State) :
    candidate s = none ↔ s.trunk.queue = [] ∧ s.trig.pendingTrigger = none := by
  unfold candidate
  cases s.trunk.queue <;> cases s.trig.pendingTrigger <;> simp <;> split <;> simp

/-- Every tick from the start of a position to its end lies in it (Table 1-1). -/
theorem positionAt_rollCall (i : StationId) (o : Nat) (h : 160 + 16 * i.val ≤ o) (h' : o < 176 + 16 * i.val) :
    positionAt o = some (.rollCall i) := by
  have hi := i.isLt
  have e : (o - 160) / 16 = i.val := by omega
  have p : positionAt o = some (.rollCall (Fin.ofNat 16 ((o - 160) / 16))) := by
    unfold positionAt
    rw [if_neg (by show ¬o < 160; omega), if_pos (by show o < 416; omega)]
    rfl
  rw [p, e]
  simp [Fin.ofNat, Nat.mod_eq_of_lt hi]

theorem positionAt_lane (l : Lane) (o : Nat) (h : 416 + 56 * l.val ≤ o) (h' : o < 472 + 56 * l.val) :
    positionAt o = some (.lane l) := by
  have hl := l.isLt
  have e : (o - 416) / 56 = l.val := by omega
  have p : positionAt o = some (.lane (Fin.ofNat 24 ((o - 416) / 56))) := by
    unfold positionAt
    rw [if_neg (by show ¬o < 160; omega), if_neg (by show ¬o < 416; omega), if_pos (by show o < 1760; omega)]
    rfl
  rw [p, e]
  simp [Fin.ofNat, Nat.mod_eq_of_lt hl]

theorem positionAt_window (k : Fin 4) (o : Nat) (h : 1760 + 60 * k.val ≤ o) (h' : o < 1820 + 60 * k.val) :
    positionAt o = some (.window k) := by
  have hk := k.isLt
  have e : (o - 1760) / 60 = k.val := by omega
  have p : positionAt o = some (.window (Fin.ofNat 4 ((o - 1760) / 60))) := by
    unfold positionAt
    rw [if_neg (by show ¬o < 160; omega), if_neg (by show ¬o < 416; omega), if_neg (by show ¬o < 1760; omega),
      if_pos (by show o < 2000; omega)]
    rfl
  rw [p, e]
  simp [Fin.ofNat, Nat.mod_eq_of_lt hk]

end Sys2Proof.Machine
end

