-- ==== Sys2Proof/WellFormed.lean ====
section
/-! DEFINITION. Which commands are well formed: those whose operands can occur. The meanings are total all the same: a
packet out of range is heard as one that failed its check. -/
namespace Sys2Proof

/-- A start of a capture window that a request can carry. -/
def WindowStart.wellFormed : WindowStart → Bool
  | .immediate => true
  | .atTime t => Machine.timeInRange t

/-- A stop of a capture window that a request can carry; R146 judges the counts. -/
def WindowStop.wellFormed : WindowStop → Bool
  | .never => true
  | .count n => n ≤ Config.windowCountMax
  | .atTime t => Machine.timeInRange t
  | .trigger n => n ≤ Config.windowCountMax

/-- The operands of the command can occur: packet fields and times in range, an image of at most 256 bytes, bytes that
fail their check, request frames that fail their decoding. -/
def Instr.wellFormed : Instr → Bool
  | .setupLoadEnd _ supplied => supplied.length ≤ Config.imageBytes
  | .failedPacketReceived heard =>
    match Machine.classify heard with
    | .passed _ => false
    | _ => true
  | .takeMark m received => Machine.packetInRange (.mark m) && Machine.timeInRange received
  | .takeTakeover t received => Machine.packetInRange (.takeover t) && Machine.timeInRange received
  | .takeHandoff h => Machine.packetInRange (.handoff h)
  | .takePresenceWord p => Machine.packetInRange (.presence p)
  | .takeClaim c => Machine.packetInRange (.claim c)
  | .takeRelease r => Machine.packetInRange (.release r)
  | .takeSample p => Machine.packetInRange (.sample p)
  | .takeTrigger t => Machine.packetInRange (.trigger t)
  | .armIn _ start stop => start.wellFormed && stop.wellFormed
  | .unknownFrameRequest frame => frame.length = 16 && (Machine.decodeFrameRequest frame).isNone
  | .unknownServiceRequest frame => (Machine.decodeServiceRequest frame).isNone
  | _ => true

end Sys2Proof
end

