-- ==== Sys2Proof/Laws/PerInstr.lean ====
section
/-! SUPPORT. A statement about every command as syntax, proved command by command: the packet a well-formed command carries
has every field in range. -/
namespace Sys2Proof.Laws.CarriedPackets

/-- The packet that a command carries: that of a row that takes one from the data pair. -/
def carried : Instr → Option Packet
  | .takeMark p _ => some (.mark p)
  | .takeTakeover p _ => some (.takeover p)
  | .takeHandoff p => some (.handoff p)
  | .takePresenceWord p => some (.presence p)
  | .takeJoin p => some (.join p)
  | .takeLeave p => some (.leave p)
  | .takeClaim p => some (.claim p)
  | .takeRelease p => some (.release p)
  | .takeSample p => some (.sample p)
  | .takeTrigger p => some (.trigger p)
  | _ => none

/-- A well-formed command carries no packet out of range. -/
def Statement (i : Instr) : Prop :=
  i.wellFormed = true → ∀ p, carried i = some p → Machine.packetInRange p = true

/-- A command that carries no packet. -/
theorem of_none {i : Instr} (h : carried i = none) : Statement i := by
  intro _ p hp
  rw [h] at hp
  exact absurd hp (by simp)

theorem powerOn : Statement .powerOn := of_none rfl

theorem resetInput : Statement .resetInput := of_none rfl

theorem supplyLoss : Statement .supplyLoss := of_none rfl

theorem setupLoadEnd (straps : StationId) (supplied : List Byte) : Statement (.setupLoadEnd straps supplied) := of_none rfl

theorem ejectRise : Statement .ejectRise := of_none rfl

theorem ejectFall : Statement .ejectFall := of_none rfl

theorem startLineRise : Statement .startLineRise := of_none rfl

theorem startLineFall : Statement .startLineFall := of_none rfl

theorem referenceAppears (input : RefInput) : Statement (.referenceAppears input) := of_none rfl

theorem referenceLost (input : RefInput) : Statement (.referenceLost input) := of_none rfl

theorem acquisitionComplete : Statement .acquisitionComplete := of_none rfl

theorem holdoverExpiry : Statement .holdoverExpiry := of_none rfl

theorem rackTimeHoldEnd : Statement .rackTimeHoldEnd := of_none rfl

theorem cutIn : Statement .cutIn := of_none rfl

theorem cutOut : Statement .cutOut := of_none rfl

theorem markDue (pair : PairAt) : Statement (.markDue pair) := of_none rfl

theorem roundBoundary : Statement .roundBoundary := of_none rfl

theorem joiningTimeout : Statement .joiningTimeout := of_none rfl

theorem rollCallStart : Statement .rollCallStart := of_none rfl

theorem rollCallPosition (pair : PairAt) : Statement (.rollCallPosition pair) := of_none rfl

theorem laneStart (lane : Lane) (pair : PairAt) : Statement (.laneStart lane pair) := of_none rfl

theorem contentionOpportunity (index : Fin 4) (rival : Option ArbKey) : Statement (.contentionOpportunity index rival) := of_none rfl

theorem quietGapEnd (rival : Option ArbKey) : Statement (.quietGapEnd rival) := of_none rfl

theorem failedPacketReceived (heard : List Byte) : Statement (.failedPacketReceived heard) := of_none rfl

theorem readBackFailed : Statement .readBackFailed := of_none rfl

theorem driveLimitCutOff : Statement .driveLimitCutOff := of_none rfl

theorem repeaterCutOff : Statement .repeaterCutOff := of_none rfl

theorem takeMark (m : Mark) (received : Nat) : Statement (.takeMark m received) := by
  intro h q hq
  obtain rfl : _ = q := Option.some.inj hq
  exact (Bool.and_eq_true _ _ ▸ h).1

theorem missedMark : Statement .missedMark := of_none rfl

theorem markTimeout : Statement .markTimeout := of_none rfl

theorem backoffExpiry : Statement .backoffExpiry := of_none rfl

theorem unframedSourceTimeout : Statement .unframedSourceTimeout := of_none rfl

theorem emptyTrunkListenExpiry : Statement .emptyTrunkListenExpiry := of_none rfl

theorem emptyTrunkAttemptTimeout : Statement .emptyTrunkAttemptTimeout := of_none rfl

theorem takeTakeover (t : Takeover) (received : Nat) : Statement (.takeTakeover t received) := by
  intro h q hq
  obtain rfl : _ = q := Option.some.inj hq
  exact (Bool.and_eq_true _ _ ▸ h).1

theorem takeHandoff (h : Handoff) : Statement (.takeHandoff h) := by
  intro h q hq
  obtain rfl : _ = q := Option.some.inj hq
  exact h

theorem takePresenceWord (p : Presence) : Statement (.takePresenceWord p) := by
  intro h q hq
  obtain rfl : _ = q := Option.some.inj hq
  exact h

theorem takeJoin (j : Join) : Statement (.takeJoin j) := by
  intro _ q hq
  obtain rfl : _ = q := Option.some.inj hq
  rfl

theorem takeLeave (l : Leave) : Statement (.takeLeave l) := by
  intro _ q hq
  obtain rfl : _ = q := Option.some.inj hq
  rfl

theorem takeClaim (c : Claim) : Statement (.takeClaim c) := by
  intro h q hq
  obtain rfl : _ = q := Option.some.inj hq
  exact h

theorem takeRelease (r : Release) : Statement (.takeRelease r) := by
  intro h q hq
  obtain rfl : _ = q := Option.some.inj hq
  exact h

theorem takeSample (p : Sample) : Statement (.takeSample p) := by
  intro h q hq
  obtain rfl : _ = q := Option.some.inj hq
  exact h

theorem takeTrigger (t : Trigger) : Statement (.takeTrigger t) := by
  intro h q hq
  obtain rfl : _ = q := Option.some.inj hq
  exact h

theorem triggerLineChange (levels : BitVec 4) : Statement (.triggerLineChange levels) := of_none rfl

theorem filterTimeExpiry : Statement .filterTimeExpiry := of_none rfl

theorem blankingEnd : Statement .blankingEnd := of_none rfl

theorem guardPeriodEnd : Statement .guardPeriodEnd := of_none rfl

theorem leavingTimeout : Statement .leavingTimeout := of_none rfl

theorem push (ch : Channel) (word : Word) : Statement (.push ch word) := of_none rfl

theorem openOut (ch : Channel) : Statement (.openOut ch) := of_none rfl

theorem closeNow (ch : Channel) : Statement (.closeNow ch) := of_none rfl

theorem closeDrain (ch : Channel) : Statement (.closeDrain ch) := of_none rfl

theorem openIn (ch : Channel) : Statement (.openIn ch) := of_none rfl

theorem closeIn (ch : Channel) : Statement (.closeIn ch) := of_none rfl

theorem holdIn (ch : Channel) : Statement (.holdIn ch) := of_none rfl

theorem resumeIn (ch : Channel) : Statement (.resumeIn ch) := of_none rfl

theorem armIn (ch : Channel) (start : WindowStart) (stop : WindowStop) : Statement (.armIn ch start stop) := of_none rfl

theorem disarmIn (ch : Channel) : Statement (.disarmIn ch) := of_none rfl

theorem readDelivery (ch : Channel) : Statement (.readDelivery ch) := of_none rfl

theorem readMemory (page : Byte) (offset : Byte) (count : BitVec 16) : Statement (.readMemory page offset count) := of_none rfl

theorem takePair (ch : Channel) : Statement (.takePair ch) := of_none rfl

theorem returnPair (ch : Channel) : Statement (.returnPair ch) := of_none rfl

theorem readChannel (direction : Direction) (ch : Channel) : Statement (.readChannel direction ch) := of_none rfl

theorem unknownFrameRequest (frame : List Byte) : Statement (.unknownFrameRequest frame) := of_none rfl

theorem resultCollected : Statement .resultCollected := of_none rfl

theorem serviceReadLive (cls : RecordClass) (index : Byte) : Statement (.serviceReadLive cls index) := of_none rfl

theorem serviceReadSnapshot (cls : RecordClass) (index : Byte) : Statement (.serviceReadSnapshot cls index) := of_none rfl

theorem snapshot : Statement .snapshot := of_none rfl

theorem readSummary : Statement .readSummary := of_none rfl

theorem rejoin : Statement .rejoin := of_none rfl

theorem leave : Statement .leave := of_none rfl

theorem clearIsolation : Statement .clearIsolation := of_none rfl

theorem unknownServiceRequest (frame : List Byte) : Statement (.unknownServiceRequest frame) := of_none rfl

theorem serviceAnswerSent : Statement .serviceAnswerSent := of_none rfl

end Sys2Proof.Laws.CarriedPackets
end

