-- ==== Sys2Proof/Laws/Settle.lean ====
section
/-! SUPPORT. The settling that every event ends with: it does nothing in a settled state, and it settles. -/
namespace Sys2Proof.Machine

theorem pauseChannel_of_settled (cause : Bool) (c : OutChannel) (h : channelSettled cause c = true) :
    pauseChannel cause c = c := by
  unfold channelSettled at h
  unfold pauseChannel
  cases cause <;> cases hc : c.state <;> simp_all

theorem channelSettled_pause (cause : Bool) (c : OutChannel) : channelSettled cause (pauseChannel cause c) = true := by
  unfold channelSettled pauseChannel openState
  cases cause <;> cases hc : c.state <;> simp_all
  split <;> simp

theorem settlePause_of_settled (s : State) (h : pausesSettled s = true) : settlePause s = s := by
  unfold settlePause
  have e : s.out.map (pauseChannel (pauseCause s)) = s.out := by
    apply Bank.ext_get
    intro i
    rw [Bank.get_map]
    exact pauseChannel_of_settled _ _ ((Bank.all_list _ _).mp h i)
  rw [e]

theorem settleElection_of_settled (s : State) (h : electionSettled s = true) : settleElection s = s := by
  unfold electionSettled at h
  unfold settleElection
  cases he : electionHolds s <;> cases hi : s.tb.election <;> simp_all

theorem settleRole_of_settled (s : State) (h : roleSettled s = true) : settleRole s = s := by
  unfold roleSettled at h
  unfold settleRole
  cases hr : s.tb.role <;> simp_all

/-- A settled state is left as it is. -/
theorem settle_of_settled (s : State) (h : settled s = true) : settle s = s := by
  simp only [settled, Bool.and_eq_true] at h
  unfold settle
  rw [settleRole_of_settled s h.1.1, settleElection_of_settled s h.1.2, settlePause_of_settled s h.2]

/-! ### The settling settles -/

@[simp] theorem setLock_tb (l : LockState) (s : State) : (setLock l s).tb.role = s.tb.role ∧
    (setLock l s).tb.designated = s.tb.designated ∧ (setLock l s).tb.election = s.tb.election := ⟨rfl, rfl, rfl⟩

@[simp] theorem inputChanged_tb (s : State) : (inputChanged s).tb.role = s.tb.role ∧
    (inputChanged s).tb.designated = s.tb.designated ∧ (inputChanged s).tb.election = s.tb.election := by
  unfold inputChanged referenceLost
  (repeat' split) <;> simp

theorem setRole_role (held : Bool) (s : State) : (setRole held s).tb.role = held := by
  unfold setRole
  dsimp only
  split
  · assumption
  · (repeat' split) <;> simp

@[simp] theorem setRole_tb (held : Bool) (s : State) : (setRole held s).tb.designated = s.tb.designated ∧
    (setRole held s).tb.election = s.tb.election := by
  unfold setRole
  by_cases h : s.tb.role = held
  · simp only [h, if_true, and_self]
  · simp only [h, if_false]
    by_cases hh : houseConfigured s = true
    · have e : ∀ t : State, t.settings = s.settings → houseConfigured t = true := by
        intro t ht
        simpa [houseConfigured, ht] using hh
      rw [if_pos (e _ (by simp))]
      simp
    · have e : ∀ t : State, t.settings = s.settings → ¬ houseConfigured t = true := by
        intro t ht
        simpa [houseConfigured, ht] using hh
      rw [if_neg (e _ (by simp))]
      split
      · simp
      · split <;> simp

@[simp] theorem designate_tb (d : Option StationId) (rank : Nat) (s : State) :
    (designate d rank s).tb = { s.tb with designated := d, designatedRank := rank } := by
  unfold designate raiseIf
  split <;> simp

theorem dropRole_role (s : State) : (dropRole s).tb.role = false := by
  unfold dropRole designateNone
  simp [setRole_role]

@[simp] theorem keepsRole_settleElection (s : State) : keepsRole (settleElection s) = keepsRole s := by
  unfold settleElection
  (repeat' split) <;> rfl

theorem settleElection_role (s : State) : (settleElection s).tb.role = s.tb.role := by
  unfold settleElection
  (repeat' split) <;> rfl

theorem roleSettled_settleRole (s : State) : roleSettled (settleRole s) = true := by
  unfold roleSettled settleRole
  split
  · simp [dropRole_role]
  · next h => revert h; cases s.tb.role <;> cases keepsRole s <;> simp

theorem electionSettled_settleElection (s : State) : electionSettled (settleElection s) = true := by
  unfold settleElection
  by_cases h : electionHolds s = true
  · simp only [h, if_true]
    by_cases hi : s.tb.election = .idle
    · simp only [hi, if_true]
      have e : electionHolds { s with tb.election := .backoff (s.clock.rack + backoffTicks s) } = electionHolds s := rfl
      simp [electionSettled, e, h]
    · simp [electionSettled, h, hi]
  · simp only [h]
    by_cases hi : s.tb.election = .idle
    · simp [electionSettled, hi, h]
    · have e : electionHolds (cancelElection s) = electionHolds s := rfl
      have e' : (cancelElection s).tb.election = .idle := rfl
      simp [hi, electionSettled, e, e', h]

theorem pausesSettled_settlePause (s : State) : pausesSettled (settlePause s) = true := by
  have e : pauseCause (settlePause s) = pauseCause s := rfl
  unfold pausesSettled
  rw [e, Bank.all_list]
  intro i
  unfold settlePause
  rw [Bank.get_map]
  exact channelSettled_pause _ _

/-- After the settling a state is settled. -/
theorem settled_settle (s : State) : settled (settle s) = true := by
  have h1 : roleSettled (settle s) = true := by
    have a : roleSettled (settle s) = roleSettled (settleElection (settleRole s)) := rfl
    have b : roleSettled (settleElection (settleRole s)) = roleSettled (settleRole s) := by
      simp only [roleSettled, keepsRole_settleElection, settleElection_role]
    rw [a, b]
    exact roleSettled_settleRole s
  have h2 : electionSettled (settle s) = true := electionSettled_settleElection (settleRole s)
  have h3 : pausesSettled (settle s) = true := pausesSettled_settlePause _
  simp [settled, h1, h2, h3]

/-- An event of a powered station leaves it settled. -/
theorem settled_event (f : State → State) (s : State) (h : s.powered = true) : settled (event f s) = true := by
  simp [event, h, settled_settle]

/-- An event whose effect leaves a settled state leaves exactly that state. -/
theorem event_of_settled (f : State → State) (s : State) (h : s.powered = true) (hf : settled (f s) = true) :
    event f s = f s := by
  simp [event, h, settle_of_settled _ hf]

/-- What the settled conditions read: states that agree on it are settled alike. -/
theorem settled_congr {s t : State} (role : t.tb.role = s.tb.role) (election : t.tb.election = s.tb.election)
    (designated : t.tb.designated = s.tb.designated) (switch : t.trunk.switch = s.trunk.switch)
    (station : t.station.state = s.station.state) (settings : t.settings = s.settings)
    (guard : t.guard.state = s.guard.state) (framed : t.framer.framed = s.framer.framed)
    (resync : t.map.resync = s.map.resync) (closing : t.progress.leaveClosingDue = s.progress.leaveClosingDue)
    (out : t.out = s.out) : settled t = settled s := by
  simp only [settled, roleSettled, keepsRole, electionSettled, electionHolds, pausesSettled, pauseCause, stationPauses,
    eligible, guardLetsSend, role, election, designated, switch, station, settings, guard, framed, resync, closing, out]

/-- A station that is not JOINED or LEAVING is settled exactly when it holds no role, runs no election and has no OPEN
channel. -/
theorem settled_outside {s : State} (h : delivers s = false) : settled s = (!s.tb.role && (s.tb.election == .idle) &&
    s.out.list.all fun c => c.state != .opened && c.state != .openShort) := by
  have hj : s.station.state ≠ .joined := by intro e; simp [delivers, e] at h
  have hl : s.station.state ≠ .leaving := by intro e; simp [delivers, e] at h
  have hk : keepsRole s = false := by simp [keepsRole, hj, hl]
  have he : electionHolds s = false := by simp [electionHolds, hj]
  have hp : pauseCause s = true := by simp [pauseCause, stationPauses, hj, hl]
  have hc : (false == (s.tb.election != .idle)) = (s.tb.election == .idle) := by
    cases s.tb.election <;> rfl
  simp only [settled, roleSettled, electionSettled, pausesSettled, hk, he, hp, hc, Bool.or_false]
  rfl

end Sys2Proof.Machine
end

