-- ==== Sys2Proof/Tests/Slice0.lean ====
section
/-! SUPPORT. Tests: ill-formed commands are refused by the well-formedness check, single commands do what their rules say
on small states, and the hypotheses of every statement are met together by a concrete state. -/
namespace Sys2Proof.Tests

open Sys2Proof.Machine

/-! ### Small states -/

/-- What an image gives the station of the tests. -/
def config : Settings :=
  { rank := 2, eligible := true, house := true, period := 4000, mask := 0, startMode := .manual }

/-- Station 3 after a good load, in a given state, with the switch CLOSED on an unframed trunk; a JOINED one has its
backoff running. -/
def station (st : StationState) : State :=
  { State.reset with
    settings := some config
    setup := { State.reset.setup with id := 3, outcome := .good }
    station := { State.reset.station with state := st }
    tb := { State.reset.tb with election := if st = .joined then .backoff 3000 else .idle }
    guard := { GuardRecord.initial with thresholds := { quiet := 3, isolate := 5, recover := 4, blanking := 2 } } }

/-- Round 5 of a framed trunk, 4,000 ticks long, begun at rack time 20,000. -/
def round5 : Framer :=
  { framed := true, round := 5, period := 4000, start := 20000, position := .mark, opening := .begun }

/-- The same station INLINE in round 5, which station 1 marks. -/
def inFrame (st : StationState) : State :=
  let s := station st
  { s with
    clock := { ticks := 20000, rack := 20000, holdUntil := 0 }
    framer := round5
    trunk := { s.trunk with switch := .inline }
    guard := { s.guard with interval := .framed }
    tb := { s.tb with
      election := .idle, period := 4000, designated := some 1, designatedRank := 1, lastMark := 20000
      timeoutBase := 20000 } }

/-- The JOINED station as the source. -/
def source : State :=
  let s := inFrame .joined
  { s with tb := { s.tb with
      role := true, designated := some 3, designatedRank := 2, markDue := some { time := 24000, round := 6 } } }

/-- The JOINED station on an unframed trunk without a source, its backoff running. -/
def orphaned : State :=
  let s := inFrame .joined
  { s with
    framer := { s.framer with framed := false }
    tb := { s.tb with designated := none, designatedRank := 8, election := .backoff 23000 } }

/-- The same station with outbound channel 2 as given. -/
def withOut (c : OutChannel) (s : State) : State := { s with out := s.out.set 2 c }

/-- The same station with inbound channel 2 as given. -/
def withIn (c : InChannel) (s : State) : State := { s with inb := s.inb.set 2 c }

/-- A packet of this station on the pair. -/
def sends (p : Packet) (e : Option QueueEntry) (s : State) : State :=
  { s with trunk := { s.trunk with sending := some { packet := p, entry := e, startedAt := 20000 } } }

/-- Outbound channel 2, of stream 40 with two slots wanted. -/
def out2 (st : OutState) : OutChannel :=
  { OutChannel.initial with state := st, defn := { stream := 40, wanted := 2, policy := .dropNew, autoOpen := false } }

/-- A word that waits in an outbound queue. -/
def waiting : QueuedWord := { word := 7, time := 19000, lock := .locked }

/-- Inbound channel 2, of stream 41, a ring of one page at page 4. -/
def in2 (st : InState) : InChannel :=
  { InChannel.initial with
    state := st
    defn := { stream := 41, base := 4, pages := 1, mode := .ring, policy := .keep, acceptance := .any } }

/-- Inbound channel 2 as a pair. -/
def pair2 (st : InState) : InChannel := { in2 st with defn := { (in2 st).defn with mode := .pair } }

/-- The map of one slot, lane 2 phase 1, held by station 5 for stream 41. -/
def map1 : LaneMap :=
  { LaneMap.cleared with
    entries := LaneMap.cleared.entries.set (slotIndex ⟨2, 1⟩)
      { holding := some { holder := 5, stream := 41 }, grantEpoch := some 9 } }

/-- A Roster in which station 5 is PRESENT. -/
def roster5 : Bank 16 RosterEntry :=
  (Bank.fill 16 RosterEntry.cleared).set 5 { RosterEntry.cleared with state := .present, rank := 1 }

/-- The station of round 5 with station 5 PRESENT, holding one slot. -/
def peered (st : StationState) : State := { inFrame st with roster := roster5, map := map1 }

/-- A quiet pair. -/
def quiet : PairAt := { busy := false, rival := none }

/-- A MARK of station 1 that opens round `r` at rack time 24,000. -/
def markOf (r : Nat) : Mark :=
  { source := 1, round := r, time := 24000, period := 4000, epoch := 0, view := 8, quality := .house, pageIndex := 0
    page := Bank.fill 8 none }

/-- A presence word. -/
def presenceOf (i : StationId) : Presence :=
  { station := i, state := .joined, lock := .locked, guard := .clear, eligible := true, rank := 1, trouble := false
    held := 1 }

/-- A SAMPLE of station 5 for stream 41 in lane 2. -/
def sample5 : Sample :=
  { holder := 5, stream := 41, lane := 2, tag := 30, time := 19900
    flags := { first := false, last := false, freeTime := false, timeStep := false, dropped := false }
    words := [0x11223344, 0x55667788] }

/-- A CLAIM of stream 41 for two slots. -/
def claimOf (i : StationId) : Claim := { station := i, stream := 41, slots := [⟨0, 0⟩, ⟨23, 3⟩] }

/-- A TAKEOVER. -/
def takeoverOf (i : StationId) : Takeover :=
  { station := i, rank := 1, time := 20000, period := 4000, epoch := 0, nextRound := 6 }

/-- The RELEASE of channel 2. -/
def ownRelease : Release := { station := 3, stream := 40, slots := [⟨2, 1⟩] }

/-- A TRIGGER of station 5. -/
def trigger5 : Trigger := { station := 5, sequence := 255, time := 19000, entry := 3 }

/-! ### Ill-formed commands are refused -/

set_option maxRecDepth 20000 in
theorem test_refuses_long_image : (Instr.setupLoadEnd 0 (List.replicate 257 0)).wellFormed = false := by decide

set_option maxRecDepth 20000 in
theorem test_takes_full_image : (Instr.setupLoadEnd 0 (List.replicate 256 0)).wellFormed = true := by decide

set_option maxRecDepth 100000 in
theorem test_refuses_failed_packet_that_passes :
    (Instr.failedPacketReceived (packetBytes (.leave ⟨4⟩))).wellFormed = false := by decide

theorem test_takes_failed_packet : (Instr.failedPacketReceived [1, 2, 3]).wellFormed = true := by decide

theorem test_refuses_mark_out_of_range :
    (Instr.takeMark { markOf 6 with round := 65536 } 0).wellFormed = false
      ∧ (Instr.takeMark { markOf 6 with time := 281474976710656 } 0).wellFormed = false
      ∧ (Instr.takeMark { markOf 6 with period := 1999 } 0).wellFormed = false
      ∧ (Instr.takeMark { markOf 6 with period := 20001 } 0).wellFormed = false
      ∧ (Instr.takeMark { markOf 6 with epoch := 65536 } 0).wellFormed = false
      ∧ (Instr.takeMark (markOf 6) 281474976710656).wellFormed = false
      ∧ (Instr.takeMark (markOf 6) 24000).wellFormed = true := by decide

theorem test_refuses_takeover_out_of_range :
    (Instr.takeTakeover { takeoverOf 5 with period := 1999 } 0).wellFormed = false
      ∧ (Instr.takeTakeover (takeoverOf 5) 281474976710656).wellFormed = false
      ∧ (Instr.takeTakeover (takeoverOf 5) 20000).wellFormed = true := by decide

theorem test_refuses_handoff_out_of_range :
    (Instr.takeHandoff { source := 1, successor := none, lastRound := 65536 }).wellFormed = false := by decide

theorem test_refuses_presence_out_of_range :
    (Instr.takePresenceWord { presenceOf 5 with held := 17 }).wellFormed = false
      ∧ (Instr.takePresenceWord { presenceOf 5 with held := 16 }).wellFormed = true := by decide

theorem test_refuses_claim_out_of_range :
    (Instr.takeClaim { claimOf 5 with slots := [] }).wellFormed = false
      ∧ (Instr.takeClaim { claimOf 5 with slots := [⟨0, 0⟩, ⟨0, 1⟩, ⟨0, 2⟩, ⟨0, 3⟩, ⟨1, 0⟩] }).wellFormed = false
      ∧ (Instr.takeClaim { claimOf 5 with slots := [⟨0, 0⟩, ⟨0, 0⟩] }).wellFormed = false
      ∧ (Instr.takeClaim (claimOf 5)).wellFormed = true := by decide

theorem test_refuses_release_out_of_range :
    (Instr.takeRelease { station := 5, stream := 41, slots := [] }).wellFormed = false
      ∧ (Instr.takeRelease { station := 5, stream := 41, slots := allSlots.take 9 }).wellFormed = false
      ∧ (Instr.takeRelease { station := 5, stream := 41, slots := allSlots.take 8 }).wellFormed = true := by decide

theorem test_refuses_sample_out_of_range :
    (Instr.takeSample { sample5 with words := [] }).wellFormed = false
      ∧ (Instr.takeSample { sample5 with words := List.replicate 17 0 }).wellFormed = false
      ∧ (Instr.takeSample { sample5 with tag := 4096 }).wellFormed = false
      ∧ (Instr.takeSample sample5).wellFormed = true := by decide

theorem test_refuses_trigger_out_of_range :
    (Instr.takeTrigger { trigger5 with sequence := 256 }).wellFormed = false
      ∧ (Instr.takeTrigger trigger5).wellFormed = true := by decide

theorem test_refuses_window_out_of_range :
    (Instr.armIn 0 .immediate (.count 16777216)).wellFormed = false
      ∧ (Instr.armIn 0 .immediate (.trigger 16777216)).wellFormed = false
      ∧ (Instr.armIn 0 (.atTime 281474976710656) .never).wellFormed = false
      ∧ (Instr.armIn 0 .immediate (.atTime 281474976710656)).wellFormed = false
      ∧ (Instr.armIn 0 .immediate (.count 0)).wellFormed = true := by decide

theorem test_refuses_known_frame_request :
    (Instr.unknownFrameRequest (2 :: List.replicate 15 0)).wellFormed = false
      ∧ (Instr.unknownFrameRequest [99]).wellFormed = false
      ∧ (Instr.unknownFrameRequest (2 :: 8 :: List.replicate 14 0)).wellFormed = true := by decide

theorem test_refuses_known_service_request :
    (Instr.unknownServiceRequest [4, 0, 0, 0]).wellFormed = false
      ∧ (Instr.unknownServiceRequest [4, 0, 0]).wellFormed = true := by decide

/-! ### The hypotheses of the statements are met: the machine, setup and the discrete lines -/

/-- The station without supply. -/
def unpowered : State := { station .joined with powered := false }

/-- The same station with the eject line and the trunk reference present. -/
def pinned (s : State) : State :=
  { s with pins := { eject := true, start := false, lines := 0, trunkRef := true, houseRef := false } }

/-- The same station in a lock state, an interval of it ending at tick 30,000. -/
def lockedAs (l : LockState) (s : State) : State := { s with tb := { s.tb with lock := l, lockDue := some 30000 } }

/-- The bytes of a good image with start mode AUTO: ranks, period 4,000, thresholds, eight streams out, eight rings. -/
def goodImage : List Byte :=
  [0x0A, 0x0F, 0xA0, 3, 4, 5, 2, 0, 0, 0, 0, 0, 0, 0, 255, 0,
   0, 1, 0, 0, 1, 1, 0, 0, 2, 1, 0, 0, 3, 1, 0, 0, 4, 1, 0, 0, 5, 1, 0, 0, 6, 1, 0, 0, 7, 1, 0, 0,
   9, 0, 0, 0, 9, 4, 0, 0, 9, 8, 0, 0, 9, 12, 0, 0, 9, 16, 0, 0, 9, 20, 0, 0, 9, 24, 0, 0, 9, 28, 0, 0]
    ++ List.replicate 174 0 ++ [0xCE, 0x6E]

/-- The test passes on the state that the outcome gives. -/
def after (o : Host.Outcome State Fault Refusal) (p : State → Bool) : Bool :=
  match o with
  | .next t => p t
  | _ => false

theorem test_meets_the_idle_step_of_RackTimeNeverDecreases :
    (State.reset.pending = [] ∧ State.reset.powered = true) ∧ (unpowered.pending = [] ∧ unpowered.powered = false) := by
  decide

theorem test_meets_EveryCommandAnswersNext :
    unpowered.powered = false ∧ Instr.rejoin ≠ .powerOn ∧ Instr.rejoin ≠ .supplyLoss ∧ rowKind .rejoin ≠ .pin := by
  decide

theorem test_meets_PowerRowsRestart : (inFrame .joined).powered = true := by decide

theorem test_meets_FieldsMoveOnlyByTheirRows :
    (∃ t, exec .rejoin (inFrame .joined) = .next t) ∧ rowKind .rejoin ≠ .pin ∧ rowKind .rejoin ≠ .restart
      ∧ rowKind .rejoin ≠ .relay ∧ rowKind .rejoin ≠ .supply ∧ rowKind .rejoin ≠ .sample
      ∧ rowKind .rejoin ≠ .load ∧ rowKind .rejoin ≠ .framePort ∧ rowKind (.openIn 0) ≠ .servicePort :=
  ⟨⟨_, rfl⟩, by decide⟩

theorem test_meets_RackTimeNeverDecreases :
    (∃ t, exec .powerOn State.reset = .next t)
      ∧ ((inFrame .joined).powered = true ∧ ∃ t, exec .resetInput (inFrame .joined) = .next t)
      ∧ (∃ t, exec .rejoin State.reset = .next t ∨ exec .clearIsolation State.reset = .next t)
      ∧ (rowKind .roundBoundary ≠ .restart ∧ rackTimeBounded (inFrame .joined) = true
        ∧ ∃ t, exec .roundBoundary (inFrame .joined) = .next t) :=
  ⟨⟨_, rfl⟩, ⟨by decide, _, rfl⟩, ⟨_, .inl rfl⟩, by decide, by decide, _, rfl⟩

theorem test_meets_SetupLoadEndsByTheImage :
    State.reset.powered = true ∧ settled State.reset = true ∧ State.reset.station.state = .setup
      ∧ State.reset.setup.outcome = .loading ∧ setupCheck [] = some (.imageCheck, none) := by decide

set_option maxRecDepth 100000 in
theorem test_good_image_passes : setupCheck goodImage = none := by decide

set_option maxRecDepth 100000 in
theorem test_image_with_a_wrong_period_is_faulty :
    setupCheck (goodImage.set 255 0x6F) = some (.imageCheck, none) := by decide

theorem test_meets_the_eject_line_of_DiscreteLinesActByStationState :
    (∀ st ∈ [StationState.ready, .listening, .learning, .blocked, .joining, .joined, .leaving, .setup, .setupFault,
        .isolated, .parked],
      (station st).powered = true ∧ settled (station st) = true ∧ (station st).pins.eject = false
        ∧ (station st).station.state = st)
      ∧ (∀ st ∈ [StationState.parked, .joined],
        (pinned (station st)).powered = true ∧ settled (pinned (station st)) = true
          ∧ (pinned (station st)).pins.eject = true) := by decide

theorem test_meets_the_start_line_of_DiscreteLinesActByStationState :
    ∀ st ∈ [StationState.ready, .listening], (station st).powered = true ∧ settled (station st) = true
      ∧ (station st).pins.start = false := by decide

theorem test_meets_ReferenceMovesTheLockState :
    (∀ l ∈ [LockState.unlocked, .holdover, .acquiring, .locked],
      let s := lockedAs l (station .ready)
      s.powered = true ∧ settled s = true ∧ detectorWatches s = true ∧ watchedInput s = .trunkPair ∧ s.tb.lock = l)
      ∧ watchedInput (station .ready) ≠ .houseInput
      ∧ (settled source = true ∧ watchedInput source = .houseInput ∧ detectorWatches source = true)
      ∧ (let s := { source with settings := some { config with house := false } }
         settled s = true ∧ detectorWatches s = false) := by decide

theorem test_meets_the_intervals_of_ReferenceMovesTheLockState :
    (∀ l ∈ [LockState.acquiring, .holdover],
      let s := lockedAs l (station .ready)
      s.powered = true ∧ settled s = true ∧ s.tb.lockDue = some 30000 ∧ s.tb.lock = l)
      ∧ rackTimeBounded (station .ready) = true := by decide

/-- The good image with bytes replaced and its CRC-16 given anew. -/
def imageWith (bytes : List (Nat × Byte)) (high low : Byte) : List Byte :=
  bytes.foldl (fun b e => b.set e.1 e.2) (goodImage.take 254) ++ [high, low]

/-- The image is complete, its CRC-16 holds, every encoding names a value, and its period is in range. -/
def imageSound (supplied : List Byte) : Prop :=
  let f := imageOf supplied
  256 ≤ supplied.length ∧ (crc16 (f.take 254)).toNat = numberAt f 254 2 ∧ (∀ a, actionCode f a ≤ 2)
    ∧ bitsAt (byteAt f 15) 0 2 ≤ 1
    ∧ (∀ ch, bitsAt (outByte f ch 2) 0 2 ≤ 1 ∧ bitsAt (inByte f ch 2) 2 2 ≤ 1 ∧ bitsAt (inByte f ch 2) 4 2 ≤ 1
      ∧ bitsAt (inByte f ch 3) 0 2 ≤ 2)

/-- Images that fail the period, ring, overlap, stream, slot and threshold checks first, in this order. -/
def faultyImages : List (List Byte) :=
  [imageWith [(1, 7), (2, 207)] 0x31 0x11, imageWith [(61, 63), (62, 1)] 0xA7 0xF3, imageWith [(69, 12)] 0x34 0xDC,
    imageWith [(32, 1)] 0x55 0x11, imageWith [(41, 9)] 0x99 0xFE, imageWith [(5, 3)] 0x0D 0x04]

set_option maxRecDepth 100000 in
theorem test_threshold_check_comes_last :
    setupCheck (imageWith [(5, 3)] 0x0D 0x04) = some (.guardThresholds, none) := by decide +kernel

/-- What the ring, overlap, stream and slot checks read of an image: each ring's first page and pages, each outbound stream
and slots wanted. -/
def definitionsOf (supplied : List Byte) : List Nat × List Nat × List Nat × List Nat :=
  let f := imageOf supplied
  let each (g : Channel → Nat) := (List.finRange 8).map g
  (each fun ch => (inDefOf f ch).base.val, each fun ch => (inDefOf f ch).pages,
    each fun ch => (outDefOf f ch).stream.val, each fun ch => (outDefOf f ch).wanted)

set_option maxRecDepth 100000 in
theorem test_meets_SetupChecksComeInOrder :
    (∀ b ∈ goodImage :: faultyImages, imageSound b)
      ∧ (goodImage :: faultyImages).map (fun b => imagePeriod (imageOf b)) = [4000, 1999, 4000, 4000, 4000, 4000, 4000]
      ∧ (∀ b ∈ goodImage :: faultyImages, ∀ ch, (inDefOf (imageOf b) ch).mode = .ring)
      ∧ (goodImage :: faultyImages.drop 1).map definitionsOf =
          [([0, 4, 8, 12, 16, 20, 24, 28], List.replicate 8 1, List.range 8, List.replicate 8 1),
            ([0, 4, 8, 63, 16, 20, 24, 28], [1, 1, 1, 2, 1, 1, 1, 1], List.range 8, List.replicate 8 1),
            ([0, 4, 8, 12, 16, 12, 24, 28], List.replicate 8 1, List.range 8, List.replicate 8 1),
            ([0, 4, 8, 12, 16, 20, 24, 28], List.replicate 8 1, [0, 1, 2, 3, 1, 5, 6, 7], List.replicate 8 1),
            ([0, 4, 8, 12, 16, 20, 24, 28], List.replicate 8 1, List.range 8, [1, 1, 1, 1, 1, 1, 9, 1]),
            ([0, 4, 8, 12, 16, 20, 24, 28], List.replicate 8 1, List.range 8, List.replicate 8 1)]
      ∧ (goodImage :: faultyImages.drop 5).map (fun b => imageThresholds (imageOf b)) =
          [{ quiet := 3, recover := 4, isolate := 5, blanking := 2 },
            { quiet := 3, recover := 4, isolate := 3, blanking := 2 }] := by
  unfold imageSound
  decide +kernel

/-! ### The hypotheses of the statements are met: the switch and the round -/

/-- A JOINING station with its switch CLOSED, by the empty-trunk way or not. -/
def joiner (emptyTrunk : Bool) : State :=
  let s := station .joining
  { s with progress := { s.progress with emptyTrunk := emptyTrunk } }

/-- The own JOIN. -/
def ownJoin : Join := { station := 3, eligible := true, rank := 2 }

/-- The same station with entries in its control queue. -/
def queued (q : List QueueEntry) (s : State) : State := { s with trunk := { s.trunk with queue := q } }

theorem test_meets_cutIn :
    (∀ s ∈ [joiner false, queued (List.replicate 6 (.join ownJoin)) (joiner false), joiner true, station .joined],
      s.powered = true ∧ settled s = true ∧ s.trunk.switch = .closed ∧ wantedSwitch s = .inline
        ∧ s.trunk.sending = none)
      ∧ roomForOrdinary (joiner false) = true
      ∧ roomForOrdinary (queued (List.replicate 6 (.join ownJoin)) (joiner false)) = false
      ∧ (joiner false).station.state = .joining ∧ (joiner false).progress.emptyTrunk = false
      ∧ (joiner true).station.state = .joining ∧ (joiner true).progress.emptyTrunk = true
      ∧ (∀ e ∈ (joiner true).trunk.queue, entryClass e ≠ .takeover) ∧ (joiner true).trunk.queue.length < 8
      ∧ (station .joined).station.state ≠ .joining
      ∧ (∀ s ∈ [inFrame .joined, station .listening, sends (.join ownJoin) none (station .joined)],
        settled s = true
          ∧ (s.trunk.switch = .inline ∨ wantedSwitch s = .closed ∨ s.trunk.sending ≠ none)) := by decide

theorem test_meets_cutOut :
    (let s := inFrame .parked
     s.powered = true ∧ settled s = true ∧ s.trunk.switch = .inline ∧ wantedSwitch s = .closed
       ∧ s.trunk.sending = none)
      ∧ (∀ s ∈ [station .ready, inFrame .joined, sends (.join ownJoin) none (inFrame .parked)],
        settled s = true
          ∧ (s.trunk.switch = .closed ∨ wantedSwitch s = .inline ∨ s.trunk.sending ≠ none)) := by decide

set_option maxRecDepth 100000 in
theorem test_meets_MarkStartsAtItsDueTime :
    let u := settleRole (impliedBoundary 6 (waitRack 24000 source))
    source.powered = true ∧ source.tb.role = true ∧ source.tb.markDue = some { time := 24000, round := 6 }
      ∧ u.tb.role = true ∧ mayTransmit u = true ∧ pairFree quiet u = true
      ∧ winsAgainst (positionalKey u) quiet.rival = true
      ∧ pairFree { busy := true, rival := none } u = false
      ∧ winsAgainst (positionalKey u) (some { cls := .positional, station := 2 }) = false ∧ u.tb.unsent < 2 := by
  decide

set_option maxRecDepth 100000 in
theorem test_meets_the_unframed_trunk_of_MarkStartsAtItsDueTime :
    let s := { source with framer := { source.framer with framed := false } }
    let u := settleRole (impliedBoundary 6 (waitRack 24000 s))
    let rival : Option ArbKey := some { cls := .positional, station := 2 }
    s.powered = true ∧ s.tb.role = true ∧ s.tb.markDue = some { time := 24000, round := 6 } ∧ u.tb.role = true
      ∧ u.framer.framed = false ∧ winsAgainst (positionalKey u) rival = false ∧ u.tb.unsent < 2
      ∧ after (exec (.markDue { busy := false, rival := rival }) s) (fun t => !t.framer.framed && t.tb.unsent = 1) = true
      ∧ after (exec (.markDue quiet) s) (fun t => t.framer.framed && t.framer.round = 6) = true := by decide

theorem test_meets_BoundaryBeginsTheNextRound :
    (∀ s ∈ [inFrame .joined, { inFrame .joined with snapshots := { pending := true, copy := none } }],
      s.powered = true ∧ s.framer.framed = true ∧ s.framer.opening = .begun)
      ∧ (let s := inFrame .joined
         expects { s with tb := { s.tb with missed := 2 } } = true) := by decide

set_option maxRecDepth 100000 in
/-- A station that sent in the last round does not offer at the next quiet gap of the trunk it then finds UNFRAMED (R11): the
count stands after the boundary and after the mark timeout; at any other boundary it begins anew. -/
theorem test_the_count_of_the_last_reckoned_round_of_BoundaryBeginsTheNextRound :
    ∀ missed ∈ [0, 1, 2],
      let s := inFrame .joined
      let s := { s with
        tb := { s.tb with missed := missed }
        trunk := { s.trunk with pace := { sent := true, heard := false, gaps := 0 } } }
      after (exec .roundBoundary s) (fun t =>
        t.trunk.pace.sent = (missed = 2) && (t.framer.opening = .closed) = (missed = 2)
          && (missed != 2 || after (exec .markTimeout t) (fun u =>
            !u.framer.framed && u.trunk.pace.sent && !paceAllows u))) = true := by decide

/-- Round 5 with station 5 PRESENT, in the roll call, with a given run of misses. -/
def silent (miss : Nat) : State :=
  { inFrame .joined with
    roster := (Bank.fill 16 RosterEntry.cleared).set 5 { RosterEntry.cleared with state := .present, miss := miss }
    rollCall := (Bank.fill 16 { inCall := false, heard := false }).set 5 { inCall := true, heard := false } }

theorem test_meets_MissesAreCountedAtTheBoundary :
    (∀ m ∈ [0, 1, 2],
      (silent m).powered = true ∧ (silent m).framer.framed = true ∧ (silent m).framer.opening = .begun
        ∧ takesTables (silent m) = true ∧ (guardBoundary (silent m)).guard.state ≠ .isolated
        ∧ ¬ ((silent m).station.state = .leaving ∧ (silent m).progress.ownLeaveTaken = true)
        ∧ (5 : StationId) ≠ stationId (silent m) ∧ ((silent m).rollCall.get 5).inCall = true
        ∧ ((silent m).rollCall.get 5).heard = false ∧ ((silent m).roster.get 5).state ≠ .absent
        ∧ ((silent m).roster.get 5).miss = m)
      ∧ ((silent 0).rollCall.get 6).inCall = false := by decide

/-- A LEAVING station whose leaving timeout ends at rack time 30,000. -/
def leaver (o : LeaveOutcome) : State :=
  let s := inFrame .leaving
  { s with
    station := { s.station with leaveOutcome := some o }
    progress := { s.progress with leavingDue := some 30000 } }

theorem test_meets_TimeoutsEndJoiningAndLeaving :
    (∀ f ∈ [0, 1, 2],
      let j := inFrame .joining
      let s := { j with
        station := { j.station with joinFails := f }, progress := { j.progress with joinBoundaries := 8 } }
      s.powered = true ∧ settled s = true ∧ s.station.state = .joining ∧ s.progress.emptyTrunk = false
        ∧ 8 ≤ s.progress.joinBoundaries ∧ s.station.joinFails = f)
      ∧ (settled (inFrame .joining) = true ∧ (inFrame .joining).progress.joinBoundaries < 8)
      ∧ (∀ o ∈ [LeaveOutcome.parked, .listening],
        let s := withOut (out2 .paused) (leaver o)
        s.powered = true ∧ settled s = true ∧ s.progress.leavingDue = some 30000 ∧ s.station.state = .leaving
          ∧ s.progress.ownLeaveTaken = false ∧ s.station.leaveOutcome = some o
          ∧ (s.out.get 2).state ∈ [OutState.opening, .opened, .openShort, .paused, .closing])
      ∧ (inFrame .joined).progress.leavingDue = none := by decide

theorem test_meets_RollCallStartAppliesDepartures :
    let s := { inFrame .joined with map := { map1 with departures := [6] } }
    s.powered = true ∧ settled s = true ∧ positionComes .rollCallBegin s = true ∧ takesTables s = true
      ∧ 6 ∈ s.map.departures
      ∧ (slotEntry s.map ⟨2, 1⟩).holding = some { holder := 5, stream := 41 } ∧ 5 ∉ s.map.departures
      ∧ (inFrame .joined).map.departures = [] := by decide

theorem test_meets_PresenceWordIsSent :
    (let s := inFrame .joined
     let t := { s with progress := { s.progress with presenceOn := true } }
     t.powered = true ∧ settled t = true ∧ positionComes (.rollCall (stationId t)) t = true ∧ delivers t = true
       ∧ t.progress.presenceOn = true ∧ mayTransmit t = true ∧ pairFree quiet t = true
       ∧ winsAgainst (positionalKey t) quiet.rival = true)
      ∧ (inFrame .joined).progress.presenceOn = false ∧ positionComes (.rollCall 3) (inFrame .joined) = true := by
  decide

/-- The JOINED station with channel 2 OPEN on lane 2 phase 1, with words waiting, draining or not. -/
def sender (drain : Bool) : State :=
  withOut { out2 .opened with slots := [⟨2, 1⟩], queue := [waiting, waiting], drain := drain, accepted := 2 }
    { inFrame .joined with
      map := { LaneMap.cleared with
        entries := LaneMap.cleared.entries.set (slotIndex ⟨2, 1⟩)
          { holding := some { holder := 3, stream := 40 }, grantEpoch := some 1 } } }

theorem test_meets_SampleIsSentInItsSlot :
    ∀ d ∈ [false, true],
      let s := sender d
      s.powered = true ∧ settled s = true ∧ positionComes (.lane 2) s = true
        ∧ heldBy (stationId s) (slotEntry s.map ⟨2, phaseOf s.framer.round⟩) = true
        ∧ channelOf s ⟨2, phaseOf s.framer.round⟩ = some 2 ∧ channelMaySend 2 s = true ∧ pairFree quiet s = true
        ∧ winsAgainst (positionalKey s) quiet.rival = true
        ∧ ((s.out.get 2).drain && decide ((s.out.get 2).queue.length ≤ 16)) = d := by decide

/-- The own CLAIM of channel 2. -/
def ownClaim : Claim := { station := 3, stream := 40, slots := [⟨0, 0⟩, ⟨0, 1⟩] }

/-- The unframed JOINED station that has heard two quiet gaps, with a CLAIM in its queue. -/
def gapped : State := queued [.claim 2 ownClaim] orphaned

theorem test_meets_ControlPacketIsOffered :
    (let s := queued [.claim 2 ownClaim] (inFrame .joined)
     s.powered = true ∧ settled s = true ∧ positionComes (.window 0) s = true ∧ positionComes (.window 3) s = true
       ∧ s.trunk.switch = .inline ∧ inRack s = true ∧ s.guard.state = .clear ∧ s.trunk.sending = none
       ∧ s.trunk.pace.sent = false ∧ s.trunk.queue = .claim 2 ownClaim :: [] ∧ s.trig.pendingTrigger = none
       ∧ entryPacket (.claim 2 ownClaim) s = .claim ownClaim
       ∧ winsAgainst { cls := .claim, station := stationId s } none = true
       ∧ winsAgainst { cls := .claim, station := stationId s } (some { cls := .claim, station := 2 }) = false)
      ∧ (let s := queued [.claim 2 ownClaim] (inFrame .joined)
         let t := { s with trig := { s.trig with pendingTrigger := some { trigger5 with station := 3 } } }
         settled t = true ∧ entryClass (.claim 2 ownClaim) ≠ .handoff ∧ entryClass (.claim 2 ownClaim) ≠ .takeover)
      ∧ (entryClass (.handoff 3 none) = .handoff ∧ entryClass (.takeover false 3 2) = .takeover)
      ∧ ((inFrame .joined).trunk.queue = [] ∧ (inFrame .joined).trig.pendingTrigger = none)
      ∧ (let s := inFrame .joined
         let p : Pace := { sent := true, gaps := 2, heard := false }
         settled { s with trunk := { s.trunk with pace := p } } = true ∧ p.sent = true ∧ s.framer.framed = true) := by
  decide

theorem test_meets_the_gaps_of_ControlPacketIsOffered :
    (gapped.powered = true ∧ settled gapped = true ∧ gapped.framer.framed = false ∧ gapped.trunk.sending = none
      ∧ gapped.trunk.waiting = [] ∧ (∀ ch, (gapped.out.get ch).emptyAttempt = false)
      ∧ gapped.trunk.queue = .claim 2 ownClaim :: [] ∧ gapped.trig.pendingTrigger = none ∧ gapped.tb.expected = none
      ∧ gapped.trunk.switch = .inline ∧ inRack gapped = true ∧ gapped.guard.state = .clear
      ∧ gapped.trunk.pace.sent = false)
      ∧ (∀ g ∈ [1, 2], let p : Pace := { sent := true, gaps := g, heard := false }
         settled { gapped with trunk := { gapped.trunk with pace := p } } = true
           ∧ (3 ≤ p.gaps + 1 ↔ g = 2))
      ∧ (let s := { orphaned with tb := { orphaned.tb with
            election := .idle, designated := some 1, expected := some { time := 20000, round := 6 } } }
         settled s = true ∧ s.framer.framed = false ∧ s.tb.expected = some { time := 20000, round := 6 }
           ∧ 20000 + s.tb.missed * s.tb.period ≤ s.clock.rack + 64 ∧ s.clock.rack ≤ 20000 + s.tb.missed * s.tb.period)
      ∧ (let s := { orphaned with tb := { orphaned.tb with
            election := .idle, designated := some 1, missed := 1, expected := some { time := 16001, round := 6 } } }
         settled s = true ∧ 16001 + s.tb.missed * s.tb.period ≤ s.clock.rack + 64
           ∧ s.clock.rack ≤ 16001 + s.tb.missed * s.tb.period)
      ∧ (settled (inFrame .joined) = true ∧ (inFrame .joined).framer.framed = true) := by decide

/-- The unframed station with a RELEASE refused admission, and an attempt of channel 2 that found no candidate. -/
def gapWork : State :=
  let s := { gapped with trunk := { gapped.trunk with
    waiting := [.release none { station := 3, stream := 50, slots := [⟨9, 0⟩] }] } }
  withOut { out2 .opening with attempts := 4, emptyAttempt := true } s

set_option maxRecDepth 100000 in
theorem test_meets_the_work_of_the_gaps_of_ControlPacketIsOffered :
    gapWork.powered = true ∧ settled gapWork = true ∧ gapWork.framer.framed = false ∧ gapWork.trunk.sending = none
      ∧ gapWork.station.state ≠ .leaving ∧ gapWork.trunk.waiting ≠ [] ∧ (gapWork.out.get 2).emptyAttempt = true
      ∧ (gapWork.out.get 2).state = .opening ∧ (gapWork.out.get 2).slots.length < (gapWork.out.get 2).defn.wanted
      ∧ after (exec (.quietGapEnd none) gapWork) (fun t =>
          t.trunk.waiting = [] && t.trunk.queue.length = 2 && (t.out.get 2).state = .failed) = true := by decide

/-- The JOINED station `o` ticks into its round. -/
def ticksIn (o : Nat) : State :=
  let s := inFrame .joined
  { s with clock := { s.clock with rack := 20000 + o } }

theorem test_meets_OutputLinesFollowTheState :
    ([0, 159, 160, 175, 176, 400, 415, 416, 471, 472, 1704, 1759, 1760, 1819, 1820, 1940, 1999, 2000, 3999].map fun o =>
        currentPosition (ticksIn o)) =
      [some .mark, some .mark, some (.rollCall 0), some (.rollCall 0), some (.rollCall 1), some (.rollCall 15),
        some (.rollCall 15), some (.lane 0), some (.lane 0), some (.lane 1), some (.lane 23), some (.lane 23),
        some (.window 0), some (.window 0), some (.window 1), some (.window 3), some (.window 3), none, none]
      ∧ (source.tb.role = true ∧ source.settings = some config ∧ config.house = true)
      ∧ (unpowered.powered = false ∧ (inFrame .joined).tb.role = false ∧ State.reset.settings = none)
      ∧ (orphaned.framer.framed = false ∧ (ticksIn 0).framer.framed = true)
      ∧ (let s := { station .ready with settings := some { config with mask := 16 }, flags := 16 }
         s.powered = true ∧ s.flags.getLsbD 4 = true ∧ (16 : Byte).getLsbD 4 = true ∧ attention s = true)
      ∧ (let s := { station .setupFault with settings := none, flags := 128 }
         s.powered = true ∧ s.flags.getLsbD 7 = true ∧ flagBit .setup = 1 <<< 7 ∧ attention s = true)
      ∧ (safeLine (station .parked) = true ∧ safeLine (station .isolated) = true ∧ safeLine (station .ready) = false) := by
  decide

theorem test_meets_a_full_queue_at_the_cut_in :
    (let s := queued (.leave ⟨3⟩ :: .handoff 3 none :: List.replicate 6 (.join ownJoin)) (joiner true)
     settled s = true ∧ s.station.state = .joining ∧ s.progress.emptyTrunk = true ∧ s.trunk.switch = .closed
       ∧ s.trunk.sending = none ∧ wantedSwitch s = .inline ∧ 8 ≤ s.trunk.queue.length
       ∧ (∀ x ∈ s.trunk.queue, entryClass x ≠ entryClass (.takeover true (stationId s) (ownRank s)))
       ∧ s.trunk.queue.getLast? = some (.join ownJoin) ∧ isOrdinary (.join ownJoin) = true
       ∧ after (exec .cutIn s) (fun t => t.trunk.queue.contains (.takeover true 3 2) && t.trunk.queue.length = 8) = true)
      ∧ (let s := queued [.takeover false 3 2] (joiner true)
         settled s = true ∧ wantedSwitch s = .inline
           ∧ ∃ x ∈ s.trunk.queue, entryClass x = entryClass (.takeover true (stationId s) (ownRank s))) := by decide

/-- The source with two due times unsent, and what it has heard of other sources. -/
def unsentTwice (other : Option (StationId × Nat)) : State :=
  { source with tb := { source.tb with unsent := 2, otherMark := other } }

/-- The source whose boundary makes its guard QUIET. -/
def silencedSource : State :=
  { source with guard := { source.guard with
      state := .watch, faults := 2, reports := { Reports.empty with counts := { echo := 1, line := 0, stuck := 0 } } } }

set_option maxRecDepth 100000 in
theorem test_meets_the_drops_of_MarkStartsAtItsDueTime :
    (∀ o ∈ [none, some (1, 23000), some (1, 10000)],
      let s := unsentTwice o
      let u := settleRole (impliedBoundary 6 (waitRack 24000 s))
      s.powered = true ∧ s.tb.role = true ∧ s.tb.markDue = some { time := 24000, round := 6 } ∧ u.tb.role = true
        ∧ pairFree { busy := true, rival := none } u = false ∧ 2 ≤ u.tb.unsent ∧ u.tb.otherMark = o
        ∧ u.clock.rack = 24000 ∧ u.tb.period = 4000)
      ∧ (let u := settleRole (impliedBoundary 6 (waitRack 24000 silencedSource))
         silencedSource.powered = true ∧ silencedSource.tb.role = true
           ∧ silencedSource.tb.markDue = some { time := 24000, round := 6 } ∧ u.tb.role = false)
      ∧ (settled (inFrame .joined) = true ∧ (inFrame .joined).tb.role = false) := by decide

set_option maxRecDepth 100000 in
theorem test_meets_the_lost_role_of_BoundaryBeginsTheNextRound :
    silencedSource.framer.framed = true ∧ silencedSource.framer.opening = .begun ∧ silencedSource.tb.role = true
      ∧ settled silencedSource = true
      ∧ after (exec .roundBoundary silencedSource) (fun t => !t.tb.role && t.guard.state = .quiet && t.tb.missed = 0) = true
      ∧ after (exec .roundBoundary source) (fun t => t.tb.role && t.framer.round = 6) = true := by decide

/-- A RELEASE of another owner that was refused admission. -/
def refused : QueueEntry := .release none { station := 3, stream := 50, slots := [⟨9, 0⟩] }

/-- An OPENING channel 2 whose last attempt, the given one, found no candidate. -/
def emptied (attempts : Nat) (slots : List Slot) : OutChannel :=
  { out2 .opening with attempts := attempts, emptyAttempt := true, slots := slots }

/-- A LEAVING station in the round of its entry, channel 2 OPEN with the slots given. -/
def leavingRound (o : LeaveOutcome) (slots : List Slot) : State :=
  let s := withOut { out2 .opened with slots := slots, queue := [waiting] } (leaver o)
  { s with progress := { s.progress with leaveClosingDue := true } }

set_option maxRecDepth 100000 in
theorem test_meets_the_closings_of_BoundaryBeginsTheNextRound :
    (∀ slots ∈ [[], [⟨2, 1⟩]],
      let s := withOut { out2 .opened with closePending := true, queue := [waiting], slots := slots } (inFrame .joined)
      (s.powered = true ∧ settled s = true ∧ s.framer.framed = true ∧ s.framer.opening = .begun
        ∧ (guardBoundary s).guard.state ≠ .isolated ∧ s.station.state = .joined)
        ∧ (s.out.get 2).closePending = true ∧ (s.out.get 2).claims = [] ∧ (s.out.get 2).releasesOut = 0
        ∧ after (exec .roundBoundary s) (fun t =>
            (t.out.get 2).state = (if slots = [] then .closed else .closing) && (t.out.get 2).queue = []
              && t.trunk.queue = (if slots = [] then [] else [.release (some 2) ⟨3, 40, slots⟩])) = true)
      ∧ (∀ o ∈ [LeaveOutcome.parked, .listening], ∀ slots ∈ [[], [⟨2, 1⟩]],
        let s := leavingRound o slots
        settled s = true ∧ (guardBoundary s).guard.state ≠ .isolated ∧ s.progress.ownLeaveTaken = false
          ∧ s.station.state = .leaving ∧ s.progress.leaveClosingDue = true ∧ isOpenState (s.out.get 2).state = true
          ∧ (s.out.get 2).closePending = false
          ∧ after (exec .roundBoundary s) (fun t => (t.out.get 2).queue = (if o = .parked then [] else [waiting])) = true) := by
  decide

set_option maxRecDepth 100000 in
theorem test_meets_the_work_of_BoundaryBeginsTheNextRound :
    (∀ c ∈ [emptied 1 [], emptied 4 [], emptied 4 [⟨2, 1⟩]],
      let s := withOut c (inFrame .joined)
      settled s = true ∧ (guardBoundary s).guard.state ≠ .isolated ∧ c.claims = [] ∧ c.slots.length < c.defn.wanted
        ∧ c.closePending = false ∧ s.progress.leaveClosingDue = false
        ∧ after (exec .roundBoundary s) (fun t =>
            (t.out.get 2).state = (if c.attempts = 1 then .opening else if c.slots = [] then .failed else .openShort)) = true)
      ∧ (let s := { inFrame .joined with trunk := { (inFrame .joined).trunk with waiting := [refused] } }
         settled s = true ∧ (guardBoundary s).guard.state ≠ .isolated ∧ (∀ ch, isClaimOf ch refused = false)
           ∧ after (exec .roundBoundary s) (fun t => t.trunk.queue = [refused] && t.trunk.waiting = []) = true)
      ∧ (let s := inFrame .joining
         settled s = true ∧ (guardBoundary s).guard.state ≠ .isolated ∧ s.station.state = .joining
           ∧ s.trunk.switch = .inline ∧ s.progress.emptyTrunk = false)
      ∧ (∀ h ∈ [0, 1, 2],
        let s := { inFrame .joined with guard := { (inFrame .joined).guard with troubleHold := h, trouble := h != 0 } }
        settled s = true ∧ (guardBoundary s).guard.state ≠ .isolated
          ∧ after (exec .roundBoundary s) (fun t => t.guard.trouble = (h = 2) && t.progress.presenceOn) = true) := by
  decide

theorem test_meets_the_freeing_of_RollCallStartAppliesDepartures :
    ∀ c ∈ [in2 .receiving, { in2 .held with lastHolder := some 5, lastTag := some 29 }, { in2 .receiving with endSeen := true }],
      let s := withIn c { peered .joined with map := { map1 with departures := [5] } }
      s.powered = true ∧ settled s = true ∧ positionComes .rollCallBegin s = true ∧ takesTables s = true
        ∧ (slotEntry s.map ⟨2, 1⟩).holding = some { holder := 5, stream := 41 } ∧ 5 ∈ s.map.departures
        ∧ heldCount s.map.entries 5 ≠ 0 ∧ inRack s = true ∧ streamCount s.map.entries (s.inb.get 2).defn.stream ≠ 0
        ∧ ((s.inb.get 2).state = .receiving ∨ (s.inb.get 2).state = .held) ∧ delivers s = true
        ∧ (s.inb.get 2).log.length < 16
        ∧ after (exec .rollCallStart s) (fun t => streamCount t.map.entries 41 = 0 && (t.inb.get 2).holder.isNone
            && (t.inb.get 2).log.length = (if c.endSeen then 0 else 1)) = true := by decide

theorem test_meets_the_losses_of_arbitration :
    (let s := inFrame .joined
     let t := { s with progress := { s.progress with presenceOn := true } }
     let lost : PairAt := { busy := false, rival := some { cls := .positional, station := 2 } }
     settled t = true ∧ delivers t = true ∧ t.progress.presenceOn = true ∧ mayTransmit t = true ∧ pairFree lost t = true
       ∧ winsAgainst (positionalKey t) lost.rival = false
       ∧ pairFree { busy := true, rival := none } t = false)
      ∧ (let s := sender true
         let lost : PairAt := { busy := false, rival := some { cls := .positional, station := 2 } }
         settled s = true ∧ positionComes (.lane 2) s = true ∧ lost.busy = false ∧ s.trunk.sending = none
           ∧ channelOf s ⟨2, phaseOf s.framer.round⟩ = some 2 ∧ winsAgainst (positionalKey s) lost.rival = false) := by
  decide

theorem test_meets_the_silent_lanes_of_SampleIsSentInItsSlot :
    (∀ s ∈ [sender false, sender true],
      heldBy (stationId s) (slotEntry s.map ⟨2, phaseOf s.framer.round⟩) = true ∧ s.trunk.switch = .inline
        ∧ inRack s = true ∧ s.guard.state = .clear ∧ s.map.resync = .none ∧ (s.out.get 2).state = .opened
        ∧ (s.out.get 2).queue ≠ [] ∧ s.trunk.sending = none)
      ∧ (let s := sender false
         positionComes (.lane 3) s = true ∧ heldBy (stationId s) (slotEntry s.map ⟨3, phaseOf s.framer.round⟩) = false)
      ∧ (let s := { sender false with out := (inFrame .joined).out }
         settled s = true ∧ heldBy (stationId s) (slotEntry s.map ⟨2, phaseOf s.framer.round⟩) = true
           ∧ channelOf s ⟨2, phaseOf s.framer.round⟩ = none)
      ∧ (let c := (sender false).out.get 2
         let s := withOut { c with queue := [] } (sender false)
         settled s = true ∧ channelOf s ⟨2, phaseOf s.framer.round⟩ = some 2 ∧ (s.out.get 2).queue = []) := by decide

/-! ### The hypotheses of the statements are met: the faults of the pair and the guard -/

theorem test_meets_FaultsOfThePairAreReported :
    (∀ s ∈ [sends (.presence (presenceOf 3)) none (inFrame .joined), sends (.mark (markOf 6)) none (inFrame .joined),
        sends (.mark (markOf 6)) none source,
        sends (.mark (markOf 6)) none { source with tb := { source.tb with unsent := 2 } },
        inFrame .joined, station .ready], s.powered = true ∧ settled s = true)
      ∧ (inFrame .joined).tb.role = false ∧ source.tb.role = true ∧ source.tb.unsent < 2
      ∧ (inFrame .joined).trunk.sending = none
      ∧ (let s := sends (.presence (presenceOf 3)) none (inFrame .joined)
         gathers s = true ∧ s.tb.unsent < 2 ∧ s.guard.state = .clear)
      ∧ (let s := sends (.presence (presenceOf 3)) none (inFrame .joined)
         let q := { s with guard := { s.guard with state := .quiet, trouble := true } }
         settled q = true ∧ gathers q = true ∧ q.guard.state = .quiet)
      ∧ (inFrame .joined).trunk.switch = .inline ∧ (station .ready).trunk.switch = .closed
      ∧ classify [] = .discarded := by decide

theorem test_meets_packets_that_are_no_mark : ∀ m, Packet.presence (presenceOf 3) ≠ .mark m := nofun

/-- Round 5 with reports and a guard state. -/
def judged (g : GuardState) (faults : Nat) (i : Interval) (c : ReportCounts) : State :=
  let s := inFrame .joined
  { s with guard := { s.guard with
      state := g, faults := faults, interval := i
      reports := { Reports.empty with counts := c } } }

theorem test_meets_GuardJudgesEachInterval :
    (∀ s ∈ [judged .clear 0 (.unframed 24000) ReportCounts.zero, judged .watch 2 .framed { echo := 0, line := 2, stuck := 0 },
        judged .quiet 4 .framed { echo := 1, line := 0, stuck := 0 }],
      s.powered = true ∧ s.guard.state ≠ .isolated ∧ s.trunk.switch = .inline
        ∧ s.framer.framed = true ∧ s.framer.opening = .begun
        ∧ ¬ (s.station.state = .leaving ∧ s.progress.ownLeaveTaken = true)
        ∧ ¬ (s.guard.blanking ≠ 0 ∨ s.guard.reports.joinOrLeave = true ∨ s.guard.reports.leaveAtBegin = true
          ∨ s.guard.reports.blanked = true))
      ∧ (judged .clear 0 (.unframed 24000) ReportCounts.zero).guard.interval = .unframed 24000
      ∧ (let s := inFrame .joined
         let b := { s with guard := { s.guard with blanking := 2 } }
         b.powered = true ∧ b.guard.interval = .framed ∧ b.guard.blanking ≠ 0) := by decide

set_option maxRecDepth 100000 in
theorem test_guard_counts_by_table :
    after (exec .roundBoundary (judged .watch 2 .framed { echo := 0, line := 2, stuck := 0 }))
        (fun t => t.guard.state = .quiet && t.guard.faults = 3 && t.guard.quietEntries = 1) = true
      ∧ after (exec .roundBoundary (judged .watch 2 .framed { echo := 0, line := 1, stuck := 0 }))
        (fun t => t.guard.state = .clear && t.guard.faults = 0 && t.guard.clean = 1) = true
      ∧ after (exec .roundBoundary (judged .quiet 4 .framed { echo := 1, line := 0, stuck := 0 }))
        (fun t => t.guard.state = .isolated && t.station.state = .isolated) = true := by decide

theorem test_meets_the_third_unsent_mark_of_FaultsOfThePairAreReported :
    ∀ o ∈ [none, some (1, 17000), some (1, 10000)],
      let s := sends (.mark (markOf 6)) none (unsentTwice o)
      s.powered = true ∧ settled s = true ∧ s.trunk.sending = some ⟨.mark (markOf 6), none, 20000⟩ ∧ s.tb.role = true
        ∧ 2 ≤ s.tb.unsent ∧ s.tb.otherMark = o ∧ s.clock.rack = 20000 ∧ s.tb.period = 4000
        ∧ (waitTicks 20200 s).clock.rack = 20200 := by decide

/-! ### The hypotheses of the statements are met: time and source -/

/-- The same station with station 1 in its Roster. -/
def knows1 (s : State) : State :=
  { s with roster := s.roster.set 1 { RosterEntry.cleared with state := .present, rank := 1 } }

theorem test_meets_MarksAreTaken :
    (∀ s ∈ [station .ready, inFrame .joined, orphaned, knows1 source, source, sends (.mark (markOf 6)) none source],
      s.powered = true ∧ settled s = true)
      ∧ (isOwn (.mark (markOf 5)) (inFrame .joined) = false ∧ packetInRange (.mark (markOf 5)) = true)
      ∧ beforeListening (station .ready) = true
      ∧ (beforeListening orphaned = false ∧ orphaned.framer.framed = false ∧ orphaned.tb.role = false
        ∧ orphaned.tb.designated = none)
      ∧ (let s := inFrame .joined
         beforeListening s = false ∧ s.framer.round = (markOf 5).round ∧ s.tb.role = false
           ∧ s.tb.designated = some (markOf 5).source)
      ∧ ((knows1 source).framer.round = (markOf 5).round ∧ (knows1 source).tb.role = true
        ∧ betterKey (rankOf 1 (knows1 source)) 1 (ownRank (knows1 source)) (stationId (knows1 source)) = true)
      ∧ betterKey (rankOf 1 source) 1 (ownRank source) (stationId source) = false
      ∧ (let s := inFrame .joined
         isOwn (.mark { markOf 5 with source := 9 }) s = false ∧ s.tb.designated = some 1 ∧ (1 : StationId) ≠ 9
           ∧ betterKey (rankOf 9 s) 9 (rankOf 1 s) 1 = false) := by decide

theorem test_meets_the_pacing_of_MarksAreTaken :
    let s := inFrame .joined
    let s := { s with
      framer := { s.framer with opening := .closed }
      trunk := { s.trunk with pace := { sent := true, heard := false, gaps := 0 } } }
    s.powered = true ∧ settled s = true ∧ s.framer.opening = .closed ∧ beforeListening s = false ∧ s.tb.role = false
      ∧ s.tb.designated = some (markOf 8).source ∧ isOwn (.mark (markOf 8)) s = false
      ∧ packetInRange (.mark (markOf 8)) = true
      ∧ after (exec (.takeMark (markOf 8) 20000) s) (fun t => !t.trunk.pace.sent && t.framer.round = 8) = true := by
  decide

theorem test_meets_the_step_note_of_MarksAreTaken :
    inRack (inFrame .listening) = false ∧ (inFrame .listening).station.state ≠ .learning
      ∧ settled (inFrame .listening) = true ∧ 2 < (markOf 5).time - 23997 ∧ 2 < 24003 - (markOf 5).time
      ∧ ¬ (2 < (markOf 5).time - 23998) ∧ ¬ (2 < 24002 - (markOf 5).time) := by decide

/-- The JOINED follower with its map as given. -/
def mapped (m : LaneMap) : State := { inFrame .joined with map := m }

theorem test_meets_EpochTestStartsAResync :
    (∀ m ∈ [LaneMap.cleared, { LaneMap.cleared with boundariesSince := 11, consecutive := 1 },
        { LaneMap.cleared with boundariesSince := 11, consecutive := 2 },
        { LaneMap.cleared with resync := .reconciling, outstanding := 1 }],
      let s := mapped m
      s.powered = true ∧ settled s = true ∧ isOwn (.mark (markOf 5)) s = false
        ∧ packetInRange (.mark (markOf 5)) = true ∧ s.station.state = .joined ∧ s.tb.role = false
        ∧ s.tb.designated = some (markOf 5).source ∧ s.framer.framed = true ∧ s.framer.round = (markOf 5).round
        ∧ (s.map.resync = .none ∨ s.map.resync = .reconciling) ∧ s.map.failed = false
        ∧ ((markOf 5).round + 65535) % 65536 ∉ s.progress.ownWordRounds)
      ∧ (markOf 5).epoch = (mapped LaneMap.cleared).map.epoch
      ∧ { markOf 5 with epoch := 1 }.epoch ≠ (mapped LaneMap.cleared).map.epoch
      ∧ (min 3 (1 + 1) ≠ 3 ∧ min 3 (2 + 1) = 3)
      ∧ (mapped { LaneMap.cleared with failed := true }).map.failed = true
      ∧ (mapped LaneMap.cleared).trunk.sending = none
      ∧ isReconciliation (.release none ownRelease) = true := by decide

theorem test_meets_MissedMarkIsPredicted :
    (∀ s ∈ [inFrame .joined, { inFrame .joined with framer := { round5 with opening := .reckoned } },
        { inFrame .listening with framer := { round5 with framed := false } }],
      s.powered = true ∧ settled s = true ∧ expects s = true ∧ s.tb.missed < 2 ∧ s.tb.expected = none)
      ∧ (settled orphaned = true ∧ expects orphaned = false)
      ∧ (let s := inFrame .joined
         let t := { s with tb := { s.tb with missed := 2, expected := some { time := 24000, round := 6 } } }
         settled t = true ∧ 2 ≤ t.tb.missed ∧ t.tb.expected = some { time := 24000, round := 6 }) := by decide

theorem test_meets_SourceLossIsDeclared :
    (let s := { inFrame .joined with snapshots := { pending := true, copy := none } }
     s.powered = true ∧ settled s = true ∧ expects s = true ∧ s.tb.designated = some 1 ∧ (1 : StationId) ≠ stationId s
       ∧ s.tb.orphan = false ∧ beforeListening s = false ∧ takesTables s = true ∧ s.station.state = .joined
       ∧ eligible s = true ∧ s.guard.state = .clear ∧ s.tb.election = .idle ∧ s.snapshots.pending = true)
      ∧ (settled (inFrame .learning) = true ∧ expects (inFrame .learning) = true
        ∧ (inFrame .learning).station.state = .learning)
      ∧ expects orphaned = false := by decide

theorem test_meets_ElectionAndListenTimersAct :
    (orphaned.powered = true ∧ settled orphaned = true ∧ orphaned.tb.election = .backoff 23000
      ∧ (∀ e ∈ orphaned.trunk.queue, entryClass e ≠ .takeover) ∧ orphaned.trunk.queue.length < 8)
      ∧ (let s := inFrame .joined
         settled s = true ∧ s.tb.election = .idle ∧ s.tb.lossDue = none ∧ s.tb.listen = .idle)
      ∧ (let t := { orphaned with tb := { orphaned.tb with lossDue := some 36000 } }
         settled t = true ∧ t.tb.lossDue = some 36000)
      ∧ (let s := station .listening
         let t := { s with tb := { s.tb with listen := .running 32000 } }
         t.powered = true ∧ settled t = true ∧ t.tb.listen = .running 32000 ∧ t.station.state = .listening)
      ∧ (let s := joiner true
         let t := { s with tb := { s.tb with listen := .cutIn 32000 } }
         settled t = true ∧ t.tb.listen = .cutIn 32000 ∧ t.station.state = .joining
           ∧ t.progress.emptyTrunk = true) := by decide

/-- The JOINED station whose own TAKEOVER is on the pair. -/
def taker : State :=
  sends (.takeover (takeoverOf 3)) (some (.takeover false 3 2))
    { orphaned with tb := { orphaned.tb with election := .takeoverQueued } }

/-- The JOINING station whose TAKEOVER of an empty trunk is on the pair. -/
def founder : State :=
  let s := sends (.takeover { takeoverOf 3 with nextRound := 0 }) (some (.takeover true 3 2)) (joiner true)
  { s with trunk := { s.trunk with switch := .inline } }

theorem test_meets_TakeoverIsTaken :
    (∀ s ∈ [station .ready, station .setupFault, source, inFrame .joined, orphaned, taker, founder],
      s.powered = true ∧ settled s = true)
      ∧ (isOwn (.takeover (takeoverOf 5)) (inFrame .joined) = false
        ∧ packetInRange (.takeover (takeoverOf 5)) = true)
      ∧ (station .setupFault).station.state = .setupFault ∧ source.tb.role = true
      ∧ ((inFrame .joined).tb.designated ≠ none ∧ overdue (inFrame .joined) = false)
      ∧ (orphaned.station.state = .joined ∧ orphaned.tb.role = false ∧ orphaned.tb.designated = none)
      ∧ ((station .ready).station.state = .ready ∧ (station .ready).tb.role = false
        ∧ (station .ready).tb.designated = none)
      ∧ (let s := inFrame .joined
         overdue { s with tb := { s.tb with missed := 1 } } = true)
      ∧ taker.trunk.sending = some ⟨.takeover (takeoverOf 3), some (.takeover false (stationId taker) 2), 20000⟩
      ∧ canGainRole taker = true ∧ taker.tb.role = false
      ∧ founder.trunk.sending = some ⟨.takeover { takeoverOf 3 with nextRound := 0 }, some (.takeover true 3 2), 20000⟩
      ∧ founder.station.state = .joining ∧ founder.progress.emptyTrunk = true ∧ founder.trunk.switch = .inline
      ∧ eligible founder = true ∧ founder.guard.state = .clear := by decide

/-- A HANDOFF of station 1. -/
def handoff1 (successor : Option StationId) : Handoff := { source := 1, successor := successor, lastRound := 5 }

theorem test_meets_HandoffIsTaken :
    (let s := inFrame .joined
     s.powered = true ∧ settled s = true ∧ isOwn (.handoff (handoff1 none)) s = false
       ∧ packetInRange (.handoff (handoff1 none)) = true ∧ s.station.state = .joined ∧ s.tb.role = false
       ∧ s.tb.designated = some (handoff1 none).source ∧ s.station.state = .joined ∧ s.map.departures = []
       ∧ (handoff1 none).successor = none ∧ (handoff1 (some 5)).successor = some 5 ∧ (5 : StationId) ≠ stationId s
       ∧ (handoff1 (some 3)).successor = some (stationId s) ∧ canGainRole s = true)
      ∧ (settled (inFrame .learning) = true ∧ canGainRole (inFrame .learning) = false)
      ∧ (settled source = true ∧ source.tb.role = true)
      ∧ (let h : Handoff := { source := 3, successor := some 5, lastRound := 5 }
         let s := sends (.handoff h) (some (.handoff 3 (some 5))) source
         settled s = true ∧ s.trunk.sending = some ⟨.handoff h, some (.handoff 3 (some 5)), 20000⟩
           ∧ s.tb.role = true) := by decide

theorem test_meets_a_better_source_of_MarksAreTaken :
    (let s := inFrame .joined
     let t := { s with roster := s.roster.set 0 { RosterEntry.cleared with state := .present, rank := 0 } }
     t.powered = true ∧ settled t = true ∧ isOwn (.mark { markOf 5 with source := 0 }) t = false
       ∧ packetInRange (.mark { markOf 5 with source := 0 }) = true ∧ t.tb.role = false ∧ t.tb.designated = some 1
       ∧ t.framer.round = (markOf 5).round ∧ rankOf 0 t < rankOf 1 t)
      ∧ (let s := inFrame .joined
         let t := { s with roster := s.roster.set 0 { RosterEntry.cleared with state := .present, rank := 1 } }
         settled t = true ∧ rankOf 0 t = rankOf 1 t ∧ (0 : StationId) < 1)
      ∧ (let s := { orphaned with tb := { orphaned.tb with designated := some 1, election := .idle } }
         settled s = true ∧ s.framer.framed = false ∧ s.tb.designated = some (markOf 9).source ∧ delivers s = true) := by
  decide

/-- The JOINED follower in RECONCILING, with its RELEASE in the queue. -/
def reconciling (outstanding : Nat) : State :=
  queued [.release none ownRelease] (mapped { map1 with resync := .reconciling, outstanding := outstanding })

theorem test_meets_the_withdrawal_of_EpochTestStartsAResync :
    let s := reconciling 1
    s.powered = true ∧ settled s = true ∧ s.map.resync = .reconciling ∧ s.trunk.sending = none
      ∧ { markOf 5 with epoch := 1 }.epoch ≠ s.map.epoch ∧ s.map.failed = false
      ∧ after (exec (.takeMark { markOf 5 with epoch := 1 } 24000) s) (fun t =>
          t.trunk.queue = [] && t.map.resync = .gathering) = true := by decide

/-- The same station before a third consecutive resync. -/
def thirdResync : State :=
  queued [.release none ownRelease]
    (mapped { map1 with resync := .reconciling, outstanding := 1, boundariesSince := 11, consecutive := 2 })

theorem test_meets_the_third_cause_of_EpochTestStartsAResync :
    let s := thirdResync
    s.powered = true ∧ settled s = true ∧ s.map.resync = .reconciling ∧ s.map.failed = false
      ∧ isReconciliation (.release none ownRelease) = true
      ∧ (.release none ownRelease : QueueEntry) ∈ s.trunk.queue ++ s.trunk.waiting
      ∧ { markOf 5 with epoch := 1 }.epoch ≠ s.map.epoch
      ∧ after (exec (.takeMark { markOf 5 with epoch := 1 } 24000) s) (fun t =>
          t.trunk.queue.contains (.release none ownRelease) && t.station.state = .leaving) = true := by decide

/-- The JOINED follower whose own word passed in round 4, with a count of omissions. -/
def viewed (omissions : Nat) : State :=
  let s := inFrame .joined
  { s with
    progress := { s.progress with ownWordRounds := [4] }
    station := { s.station with viewOmissions := omissions } }

theorem test_meets_RosterViewIsChecked :
    (∀ n ∈ [0, 1],
      let s := viewed n
      s.powered = true ∧ settled s = true ∧ isOwn (.mark (markOf 5)) s = false ∧ packetInRange (.mark (markOf 5)) = true
        ∧ s.station.state = .joined ∧ s.tb.role = false ∧ s.tb.designated = some (markOf 5).source
        ∧ s.framer.framed = true ∧ s.framer.round = (markOf 5).round ∧ s.map.resync = .none
        ∧ (markOf 5).epoch = s.map.epoch ∧ ((markOf 5).round + 65535) % 65536 ∈ s.progress.ownWordRounds
        ∧ s.station.viewOmissions = n)
      ∧ ((markOf 5).round + 65535) % 65536 ∉ (inFrame .joined).progress.ownWordRounds
      ∧ (markOf 5).view.getLsbD 3 = true ∧ { markOf 5 with view := 0 }.view.getLsbD 3 = false
      ∧ after (exec (.takeMark { markOf 5 with view := 0 } 24000) (viewed 1)) (fun t =>
          t.station.state = .leaving && t.trunk.queue = [.leave ⟨3⟩]) = true := by decide

/-- All 12 page indices but those given. -/
def allBut (ks : List (Fin 12)) : Bank 12 Bool := Bank.ofFn fun k => !ks.contains k

/-- The JOINED follower in a gathering. -/
def gathering (m : LaneMap) : State := mapped { m with resync := .gathering }

/-- A map in which this station holds lane 2 phase 1 for stream 40. -/
def ownMap : LaneMap :=
  { LaneMap.cleared with
    entries := LaneMap.cleared.entries.set (slotIndex ⟨2, 1⟩)
      { holding := some { holder := 3, stream := 40 }, grantEpoch := none } }

theorem test_meets_GatheringEndsInReconciliation :
    (∀ m ∈ [LaneMap.cleared, { map1 with gatherMarks := 23, gathered := allBut [0] },
        { LaneMap.cleared with gatherMarks := 23 }, { LaneMap.cleared with gatherMarks := 23, consecutive := 2 },
        { map1 with gathered := allBut [] }, { ownMap with gathered := allBut [] }],
      let s := gathering m
      s.powered = true ∧ settled s = true ∧ isOwn (.mark (markOf 5)) s = false
        ∧ packetInRange (.mark (markOf 5)) = true ∧ inRack s = true ∧ s.progress.emptyTrunk = false
        ∧ s.tb.role = false ∧ s.tb.designated = some (markOf 5).source ∧ s.framer.framed = true
        ∧ s.framer.round = (markOf 5).round ∧ s.map.resync = .gathering ∧ s.map.failed = false
        ∧ s.station.state = .joined)
      ∧ (LaneMap.cleared.gathered.get 3 = false ∧ LaneMap.cleared.gatherMarks + 1 < 24)
      ∧ ((allBut [0]).get 0 = false ∧ ∀ k, (allBut [0]).get k = true ∨ k = (markOf 5).pageIndex)
      ∧ (LaneMap.cleared.gathered.get 1 = false ∧ (1 : Fin 12) ≠ (markOf 5).pageIndex)
      ∧ (min 3 (0 + 1) ≠ 3 ∧ min 3 (2 + 1) = 3) ∧ (∀ k, (allBut []).get k = true)
      ∧ (∀ i, (markOf 5).page.get i = none) := by decide

theorem test_meets_the_reconciliation_of_GatheringEndsInReconciliation :
    (let s := gathering { ownMap with gathered := allBut [] }
     heldBy (stationId s) (slotEntry s.map ⟨2, 1⟩) = true ∧ (∀ ch, (s.out.get ch).slots = [])
       ∧ after (exec (.takeMark (markOf 5) 24000) s) (fun t => t.map.resync = .reconciling && t.map.outstanding = 1
           && t.trunk.queue = [.release none ownRelease]) = true)
      ∧ (∀ l ∈ allSlots, heldBy 3 (slotEntry map1 l) = false)
      ∧ (let s := withIn (in2 .waiting) (gathering { map1 with gathered := allBut [] })
         settled s = true ∧ (s.inb.get 2).state = .waiting
           ∧ streamHolder s.map.entries (s.inb.get 2).defn.stream = some 5)
      ∧ (let s := withIn (in2 .receiving) (gathering { ownMap with gathered := allBut [] })
         settled s = true ∧ (s.inb.get 2).state = .receiving
           ∧ streamCount s.map.entries (s.inb.get 2).defn.stream = 0)
      ∧ (∀ n ∈ [1, 2],
          let s := sends (.release ownRelease) (some (.release none ownRelease)) (reconciling n)
          s.powered = true ∧ settled s = true ∧ inRack s = true ∧ s.map.resync = .reconciling
            ∧ s.trunk.sending = some ⟨.release ownRelease, some (.release none ownRelease), 20000⟩
            ∧ s.map.outstanding = n) := by decide

/-- The LEARNING station with its attempt as given. -/
def learning (m : LaneMap) (fails : Nat) : State :=
  let s := inFrame .learning
  { s with
    trunk := { s.trunk with switch := .closed }
    map := m
    station := { s.station with learnFails := fails } }

/-- The LISTENING station with a lock state. -/
def listening (l : LockState) : State :=
  let s := inFrame .listening
  { s with trunk := { s.trunk with switch := .closed }, tb := { s.tb with lock := l } }

theorem test_meets_LearningLeadsToJoining :
    (∀ s ∈ [listening .unlocked, listening .locked, listening .acquiring],
      s.powered = true ∧ settled s = true ∧ isOwn (.mark (markOf 5)) s = false ∧ s.tb.role = false
        ∧ s.tb.designated = some (markOf 5).source ∧ s.framer.round = (markOf 5).round ∧ s.station.state = .listening)
      ∧ (packetInRange (.mark (markOf 5)) = true ∧ (markOf 5).quality ≠ .own
        ∧ { markOf 5 with quality := .own }.quality = .own)
      ∧ (∀ f ∈ [0, 2], ∀ m ∈ [LaneMap.cleared, { LaneMap.cleared with gathered := allBut [] },
            { LaneMap.cleared with gathered := allBut [], awaitCheck := true },
            { LaneMap.cleared with gathered := allBut [], awaitCheck := true, foundOwn := true },
            { LaneMap.cleared with gatherMarks := 23 }],
          let s := learning m f
          s.powered = true ∧ settled s = true ∧ s.tb.role = false ∧ s.tb.designated = some (markOf 5).source
            ∧ s.station.state = .learning ∧ s.progress.learned = false ∧ s.station.learnFails = f ∧ s.map = m)
      ∧ ((markOf 5).epoch = LaneMap.cleared.epoch ∧ { markOf 5 with epoch := 1 }.epoch ≠ LaneMap.cleared.epoch)
      ∧ (24 ≤ 23 + 1 ∧ LaneMap.cleared.gathered.get 1 = false ∧ (1 : Fin 12) ≠ (markOf 5).pageIndex) := by decide

theorem test_meets_the_boundaries_of_LearningLeadsToJoining :
    ∀ x ∈ [(true, 3), (true, 2), (false, 3)],
      let s := learning LaneMap.cleared 0
      let t := { s with progress := { s.progress with learned := x.1, learnBoundaries := x.2 } }
      t.powered = true ∧ settled t = true ∧ t.station.state = .learning ∧ t.trunk.switch = .closed
        ∧ t.framer.framed = true ∧ t.framer.opening = .begun := by decide

theorem test_learning_to_joining :
    after (exec (.takeMark (markOf 5) 24000) (listening .locked)) (fun t =>
        t.station.state = .learning && t.map.gatherMarks = 1 && t.map.gathered.get 0) = true
      ∧ after (exec (.takeMark { markOf 5 with epoch := 1 } 24000)
          (learning { LaneMap.cleared with gathered := allBut [], awaitCheck := true } 2)) (fun t =>
        t.station.state = .blocked && t.station.blockReason = some .learnFail) = true := by
  decide +kernel

theorem test_meets_the_unframed_loss_of_SourceLossIsDeclared :
    (let s := { orphaned with tb := { orphaned.tb with election := .idle, designated := some 1 } }
     s.powered = true ∧ settled s = true ∧ expects s = true ∧ s.framer.framed = false ∧ s.station.state = .joined)
      ∧ (let s := inFrame .joined
         expects s = true ∧ s.framer.framed = true ∧ s.trunk.switch = .inline ∧ s.guard.interval ≠ .none) := by decide

theorem test_meets_a_full_queue_of_ElectionAndListenTimersAct :
    let s := queued (.leave ⟨3⟩ :: .handoff 3 none :: List.replicate 6 (.claim 2 ownClaim)) orphaned
    settled s = true ∧ s.tb.election = .backoff 23000 ∧ 8 ≤ s.trunk.queue.length ∧ s.trunk.sending = none
      ∧ s.trunk.queue.getLast? = some (.claim 2 ownClaim) ∧ isOrdinary (.claim 2 ownClaim) = true
      ∧ (∀ x ∈ s.trunk.queue, entryClass x ≠ entryClass (.takeover false (stationId s) (ownRank s)))
      ∧ after (exec .backoffExpiry s) (fun t =>
          t.trunk.queue.length = 8 && t.trunk.queue.contains (.takeover false 3 2)) = true := by decide

theorem test_meets_a_void_takeover_of_TakeoverIsTaken :
    (let s := { taker with tb := { taker.tb with election := .idle }, guard := { taker.guard with state := .quiet } }
     settled s = true ∧ s.tb.role = false ∧ s.guard.state = .quiet
       ∧ s.trunk.sending = some ⟨.takeover (takeoverOf 3), some (.takeover false (stationId s) 2), 20000⟩)
      ∧ (let s := { founder with guard := { founder.guard with state := .quiet } }
         settled s = true ∧ s.station.state = .joining ∧ s.progress.emptyTrunk = true
           ∧ ¬(s.guard.state = .clear ∨ s.guard.state = .watch)) := by decide

/-! ### The hypotheses of the statements are met: the Roster and the Lane Map -/

theorem test_meets_PresenceWordsMoveTheRoster :
    (∀ st ∈ [StationState.listening, .learning, .joining, .joined, .leaving, .setup, .setupFault, .ready, .parked,
        .isolated, .blocked],
      (peered st).powered = true ∧ settled (peered st) = true ∧ (peered st).station.state = st
        ∧ (3 : StationId) = stationId (peered st)
        ∧ isOwn (.presence (presenceOf 5)) (peered st) = false
        ∧ packetInRange (.presence (presenceOf 5)) = true)
      ∧ (let s := peered .joined
         (5 : StationId) ≠ stationId s ∧ takesTables s = true ∧ (s.roster.get 5).state ≠ .absent
           ∧ heldCount s.map.entries 5 = (presenceOf 5).held)
      ∧ (let s := { peered .joined with map := LaneMap.cleared }
         settled s = true ∧ inRack s = true ∧ s.tb.role = false ∧ s.map.resync = .none
           ∧ heldCount s.map.entries 5 ≠ (presenceOf 5).held ∧ s.map.mismatch.get 5 = 0)
      ∧ (let s := inFrame .learning
         let t := { s with progress := { s.progress with lastView := 32 } }
         settled t = true ∧ (t.roster.get 5).state = .absent ∧ t.station.state = .learning
           ∧ t.progress.lastView.getLsbD 5 = true)
      ∧ (takesTables (inFrame .listening) = false ∧ ((inFrame .joined).roster.get 5).state = .absent)
      ∧ (let s := sends (.presence (presenceOf 3)) none (inFrame .joined)
         settled s = true ∧ s.trunk.sending = some ⟨.presence (presenceOf 3), none, 20000⟩)
      ∧ (let s := withOut (out2 .opened) (peered .joined)
         settled s = true ∧ (s.out.get 2).state ∈ [OutState.opening, .opened, .openShort, .paused, .closing]) := by
  decide

theorem test_meets_JoinAndLeaveMoveTheRoster :
    (let s := peered .joined
     s.powered = true ∧ settled s = true ∧ isOwn (.join ⟨5, true, 1⟩) s = false ∧ isOwn (.leave ⟨5⟩) s = false
       ∧ (5 : StationId) ≠ stationId s ∧ takesTables s = true ∧ (s.roster.get 5).state = .present
       ∧ (s.roster.get 6).state ≠ .present ∧ gathers s = true ∧ heldCount s.map.entries 5 ≠ 0
       ∧ heldCount s.map.entries 6 = 0)
      ∧ (settled (inFrame .listening) = true ∧ takesTables (inFrame .listening) = false)
      ∧ (let s := sends (.join ownJoin) (some (.join ownJoin)) (inFrame .joining)
         settled s = true ∧ s.trunk.sending = some ⟨.join ownJoin, some (.join ownJoin), 20000⟩
           ∧ ownJoin.station = stationId s ∧ s.station.state = .joining)
      ∧ (∀ o ∈ [LeaveOutcome.parked, .listening], ∀ f ∈ [true, false],
        let s := sends (.leave ⟨3⟩) (some (.leave ⟨3⟩)) { leaver o with framer := { round5 with framed := f } }
        settled s = true ∧ s.trunk.sending = some ⟨.leave ⟨3⟩, some (.leave ⟨3⟩), 20000⟩
          ∧ (3 : StationId) = stationId s ∧ s.station.state = .leaving ∧ s.station.leaveOutcome = some o
          ∧ s.framer.framed = f) := by decide

/-- The station of the tests with its own entry in a Roster state, holding one slot for stream 40. -/
def named (e : EntryState) (s : State) : State :=
  { s with
    roster := s.roster.set 3 { RosterEntry.cleared with state := e }
    map := { LaneMap.cleared with
      entries := LaneMap.cleared.entries.set (slotIndex ⟨2, 1⟩)
        { holding := some { holder := 3, stream := 40 }, grantEpoch := some 9 } } }

set_option maxRecDepth 100000 in
theorem test_meets_the_namesakes_of_JoinAndLeaveMoveTheRoster :
    (∀ e ∈ [EntryState.present, .joining],
      let s := named e (inFrame .joined)
      s.powered = true ∧ settled s = true ∧ isOwn (.join ⟨3, true, 1⟩) s = false ∧ isOwn (.leave ⟨3⟩) s = false
        ∧ (3 : StationId) = stationId s ∧ takesTables s = true ∧ (s.roster.get (stationId s)).state = e
        ∧ gathers s = true ∧ heldCount s.map.entries (stationId s) = 1
        ∧ after (exec (.takeJoin ⟨3, true, 1⟩) s) (fun t =>
            heldCount t.map.entries 3 = (if e = .present then 0 else 1) && t.roster = s.roster) = true)
      ∧ (settled (inFrame .listening) = true ∧ takesTables (inFrame .listening) = false) := by decide

/-- A LEAVING station that has taken its own LEAVE, channel 2 OPEN with a word that waits. -/
def left (o : LeaveOutcome) : State :=
  let s := leavingRound o [⟨2, 1⟩]
  { s with progress := { s.progress with ownLeaveTaken := true } }

set_option maxRecDepth 100000 in
theorem test_meets_the_end_of_LEAVING_of_JoinAndLeaveMoveTheRoster :
    ∀ o ∈ [LeaveOutcome.parked, .listening],
      let s := left o
      s.powered = true ∧ settled s = true ∧ s.station.state = .leaving ∧ s.progress.ownLeaveTaken = true
        ∧ s.framer.framed = true ∧ s.framer.opening = .begun ∧ (guardBoundary s).guard.state ≠ .isolated
        ∧ expects s = true ∧ s.station.leaveOutcome = some o ∧ (s.out.get 2).closePending = false
        ∧ (∀ c ∈ [Instr.roundBoundary, .markTimeout], after (exec c s) (fun t =>
            t.station.state = (if o = .parked then .parked else .listening)
              && (t.out.get 2).state = (if o = .parked then .closed else .lost)
              && (t.out.get 2).queue = (if o = .parked then [] else [waiting])) = true) := by decide

/-- A map in which station 5 holds the first 16 slots, eight of each of two streams. -/
def fullMap : LaneMap :=
  { LaneMap.cleared with
    entries := Bank.ofFn fun i =>
      if i.val < 16 then
        { holding := some { holder := 5, stream := if i.val < 8 then 41 else 42 }, grantEpoch := none }
      else SlotEntry.free }

/-- Only station 5 holds a slot of the small map, for stream 41. -/
theorem map1_entries : ∀ i : Fin 96,
    (map1.entries.get i).holding = none ∨ (map1.entries.get i).holding = some { holder := 5, stream := 41 } := by
  decide

/-- No other station holds stream 41 of the small map. -/
theorem map1_no_conflict :
    ¬ ∃ l x, (slotEntry map1 l).holding = some x ∧ x.stream = (claimOf 5).stream ∧ x.holder ≠ (claimOf 5).station := by
  rintro ⟨l, x, h, _, hn⟩
  rcases map1_entries (slotIndex l) with e | e
  · rw [slotEntry, e] at h
    exact absurd h (by simp)
  · rw [slotEntry, e] at h
    obtain rfl := Option.some.inj h
    exact hn rfl

theorem test_meets_ClaimIsJudged :
    (∀ s ∈ [peered .joined, peered .listening, { peered .joined with map := fullMap }],
      s.powered = true ∧ settled s = true ∧ isOwn (.claim (claimOf 5)) s = false)
      ∧ packetInRange (.claim (claimOf 5)) = true
      ∧ takesTables (peered .listening) = false ∧ ((peered .joined).roster.get 6).state = .absent
      ∧ 16 ≤ heldCount fullMap.entries 5 ∧ 8 ≤ streamCount fullMap.entries 41
      ∧ (let s := peered .joined
         takesTables s = true ∧ ¬ (s.roster.get (claimOf 5).station).state = .absent
           ∧ heldCount s.map.entries 5 + (claimOf 5).slots.length ≤ 16
           ∧ streamCount s.map.entries 41 + (claimOf 5).slots.length ≤ 8
           ∧ (⟨0, 0⟩ : Slot) ∈ (claimOf 5).slots ∧ (slotEntry s.map ⟨0, 0⟩).holding = none
           ∧ (slotEntry s.map ⟨2, 1⟩).holding ≠ none)
      ∧ (let s := withIn (in2 .waiting) { peered .joined with map := LaneMap.cleared }
         settled s = true ∧ inRack s = true ∧ streamCount s.map.entries 41 = 0
           ∧ (s.inb.get 2).defn.stream = (claimOf 5).stream ∧ (s.inb.get 2).state = .waiting
           ∧ (s.inb.get 0).defn.stream ≠ (claimOf 5).stream) := by decide

theorem test_meets_the_conflict_of_ClaimIsJudged :
    ∃ l x, (slotEntry map1 l).holding = some x ∧ x.stream = (claimOf 6).stream ∧ x.holder ≠ (claimOf 6).station :=
  ⟨⟨2, 1⟩, ⟨5, 41⟩, by decide⟩

/-- The JOINED station whose own CLAIM for channel 2 is on the pair. -/
def claimant (m : LaneMap) : State :=
  sends (.claim ownClaim) (some (.claim 2 ownClaim))
    (queued [.claim 2 ownClaim]
      (withOut { out2 .opening with attempts := 1, claims := [ownClaim.slots], queue := [waiting], accepted := 1 }
        { inFrame .joined with
          map := m
          roster := (Bank.fill 16 RosterEntry.cleared).set 3 { RosterEntry.cleared with state := .present } }))

theorem test_meets_OwnClaimBindsItsSlots :
    (∀ m ∈ [LaneMap.cleared, map1],
      let s := claimant m
      s.powered = true ∧ settled s = true
        ∧ s.trunk.sending = some ⟨.claim ownClaim, some (.claim 2 ownClaim), 20000⟩ ∧ takesTables s = true
        ∧ packetInRange (.claim ownClaim) = true ∧ (s.roster.get ownClaim.station).state ≠ .absent
        ∧ (s.out.get 2).state = .opening ∧ (s.out.get 2).claims = [ownClaim.slots]
        ∧ (∀ l ∈ ownClaim.slots, (slotEntry s.map l).holding = none) ∧ (s.out.get 2).emptyAttempt = false
        ∧ heldCount s.map.entries 3 + ownClaim.slots.length ≤ 16
        ∧ streamCount s.map.entries 40 + ownClaim.slots.length ≤ 8
        ∧ (s.out.get 2).defn.wanted ≤ (s.out.get 2).slots.length + ownClaim.slots.length) := by decide

/-- The small map holds no slot for the stream of the own CLAIM. -/
theorem test_meets_no_conflict_of_OwnClaimBindsItsSlots :
    ¬ ∃ l x, (slotEntry map1 l).holding = some x ∧ x.stream = ownClaim.stream ∧ x.holder ≠ ownClaim.station := by
  rintro ⟨l, x, h, hs, _⟩
  rcases map1_entries (slotIndex l) with e | e
  · rw [slotEntry, e] at h
    exact absurd h (by simp)
  · rw [slotEntry, e] at h
    obtain rfl := Option.some.inj h
    exact absurd hs (by decide)

theorem test_meets_the_conflict_of_OwnClaimBindsItsSlots :
    let m := { LaneMap.cleared with
      entries := LaneMap.cleared.entries.set 95 { holding := some { holder := 5, stream := 40 }, grantEpoch := none } }
    settled (claimant m) = true
      ∧ ∃ l x, (slotEntry m l).holding = some x ∧ x.stream = ownClaim.stream ∧ x.holder ≠ ownClaim.station :=
  ⟨by decide, ⟨23, 3⟩, ⟨5, 40⟩, by decide⟩

theorem test_own_claim_opens_its_channel :
    after (exec (.takeClaim ownClaim) (claimant LaneMap.cleared)) (fun t =>
      (t.out.get 2).state = .opened && (t.out.get 2).slots = [⟨0, 0⟩, ⟨0, 1⟩] && t.map.epoch = 1
        && heldCount t.map.entries 3 = 2) = true := by decide

/-- The RELEASE of stream 41 by station 5. -/
def release5 : Release := { station := 5, stream := 41, slots := [⟨2, 1⟩] }

theorem test_meets_ReleaseFreesItsSlots :
    (let c := in2 .receiving
     let s := withIn { c with holder := some 5 } (peered .joined)
     s.powered = true ∧ settled s = true ∧ takesTables s = true ∧ isOwn (.release release5) s = false
       ∧ packetInRange (.release release5) = true ∧ (s.inb.get 0).defn.stream ≠ release5.stream ∧ inRack s = true
       ∧ ((⟨2, 1⟩ : Slot) ∈ release5.slots
         ∧ (slotEntry s.map ⟨2, 1⟩).holding = some { holder := release5.station, stream := release5.stream })
       ∧ (s.inb.get 2).defn.stream = release5.stream ∧ (s.inb.get 2).state = .receiving ∧ delivers s = true
       ∧ (s.inb.get 2).endSeen = false ∧ (s.inb.get 2).holder ≠ none ∧ (s.inb.get 2).log.length < 16
       ∧ after (exec (.takeRelease release5) s) (fun t =>
           streamCount t.map.entries 41 = 0 && (t.inb.get 2).state = .waiting && (t.inb.get 2).log.length = 1) = true)
      ∧ (let s := sends (.release ownRelease) (some (.release (some 2) ownRelease))
          (withOut { out2 .closing with slots := [⟨2, 1⟩], releasesOut := 1, closingTo := some .closed } (inFrame .joined))
         settled s = true ∧ (s.out.get 2).state = .closing ∧ (s.out.get 2).claims = [] ∧ (s.out.get 2).releasesOut = 1
           ∧ (s.out.get 2).closingTo = some .closed ∧ (∀ l ∈ (s.out.get 2).slots, l ∈ ownRelease.slots)) := by decide

theorem test_meets_the_second_mismatch_of_PresenceWordsMoveTheRoster :
    ∀ n ∈ [0, 2],
      let m := { LaneMap.cleared with mismatch := (Bank.fill 16 0).set 5 1, boundariesSince := 0, consecutive := n }
      let s := { peered .joined with map := m }
      settled s = true ∧ inRack s = true ∧ s.tb.role = false ∧ s.map.resync = .none ∧ s.map.failed = false
        ∧ heldCount s.map.entries 5 ≠ (presenceOf 5).held ∧ s.map.mismatch.get 5 = 1 ∧ s.station.state = .joined
        ∧ after (exec (.takePresenceWord (presenceOf 5)) s) (fun t =>
            if n = 0 then t.map.resync = .gathering else t.station.state = .leaving) = true := by decide

/-- A map in which station 5 holds 15 slots, seven of them for stream 41. -/
def nearlyFullMap : LaneMap :=
  { LaneMap.cleared with
    entries := Bank.ofFn fun i =>
      if 0 < i.val ∧ i.val < 16 then
        { holding := some { holder := 5, stream := if i.val < 8 then 41 else 42 }, grantEpoch := none }
      else SlotEntry.free }

theorem test_meets_a_cap_part_way_of_ClaimIsJudged :
    let s := { peered .joined with map := nearlyFullMap }
    let c : Claim := { station := 5, stream := 41, slots := [⟨0, 1⟩, ⟨0, 0⟩, ⟨23, 3⟩] }
    settled s = true ∧ takesTables s = true ∧ isOwn (.claim c) s = false ∧ packetInRange (.claim c) = true
      ∧ (s.roster.get 5).state ≠ .absent
      ∧ (c.slots.filter fun l => (slotEntry s.map l).holding = none) = [⟨0, 0⟩, ⟨23, 3⟩]
      ∧ min (16 - heldCount s.map.entries 5) (8 - streamCount s.map.entries 41) = 1
      ∧ (∀ l ∈ allSlots, (slotEntry nearlyFullMap l).holding = none
          ∨ (slotEntry nearlyFullMap l).holding = some ⟨5, 41⟩ ∨ (slotEntry nearlyFullMap l).holding = some ⟨5, 42⟩)
      ∧ after (exec (.takeClaim c) s) (fun t => slotEntry t.map ⟨0, 0⟩ = ⟨some ⟨5, 41⟩, some 1⟩
          && isFree (slotEntry t.map ⟨23, 3⟩)) = true := by
  decide +kernel

/-- The JOINED station whose own CLAIM is on the pair, with channel 2 and the map as given. -/
def claims2 (c : OutChannel) (m : LaneMap) : State :=
  let s := claimant m
  { s with out := s.out.set 2 c }

/-- Channel 2 in its `n`th attempt, with its CLAIM pending. -/
def attempting (n : Nat) : OutChannel :=
  { out2 .opening with attempts := n, claims := [ownClaim.slots], queue := [waiting], accepted := 1 }

/-- A map in which station 5 holds slots for stream 41. -/
def takenMap (ls : List Slot) : LaneMap :=
  { LaneMap.cleared with
    entries := Bank.ofFn fun i =>
      if ls.contains (slotAt i) then { holding := some { holder := 5, stream := 41 }, grantEpoch := none }
      else SlotEntry.free }

/-- A map in which station 3 holds 15 slots of its own for stream 50. -/
def cappedMap : LaneMap :=
  { LaneMap.cleared with
    entries := Bank.ofFn fun i =>
      if 80 ≤ i.val ∧ i.val < 95 then { holding := some { holder := 3, stream := 50 }, grantEpoch := none }
      else SlotEntry.free }

theorem test_meets_the_attempts_of_OwnClaimBindsItsSlots :
    (∀ x ∈ [(1, takenMap [⟨0, 1⟩]), (1, cappedMap), (4, takenMap [⟨0, 1⟩]), (4, takenMap [⟨0, 0⟩, ⟨0, 1⟩])],
      let s := claims2 (attempting x.1) x.2
      s.powered = true ∧ settled s = true ∧ takesTables s = true
        ∧ s.trunk.sending = some ⟨.claim ownClaim, some (.claim 2 ownClaim), 20000⟩
        ∧ (s.roster.get ownClaim.station).state ≠ .absent ∧ ownClaim.slots ∈ (s.out.get 2).claims
        ∧ (s.out.get 2).state = .opening ∧ (s.out.get 2).claims.erase ownClaim.slots = []
        ∧ (s.out.get 2).emptyAttempt = false ∧ (s.out.get 2).attempts = x.1
        ∧ (∀ l ∈ allSlots, (slotEntry s.map l).holding = none ∨ (slotEntry s.map l).holding = some ⟨5, 41⟩
          ∨ (slotEntry s.map l).holding = some ⟨3, 50⟩)) := by decide +kernel

/-- Channel 2 as a state that an own CLAIM finds it in. -/
def closing2 : OutChannel :=
  { out2 .closing with claims := [ownClaim.slots], closingTo := some .closed }

theorem test_own_claim_by_attempt_and_state :
    after (exec (.takeClaim ownClaim) (claims2 (attempting 1) (takenMap [⟨0, 1⟩]))) (fun t =>
        (t.out.get 2).attempts = 2 && (t.out.get 2).lastOutcome = some (.counts 1 1 0)
          && (t.out.get 2).claims = [[⟨0, 2⟩]]) = true
      ∧ after (exec (.takeClaim ownClaim) (claims2 (attempting 1) cappedMap)) (fun t =>
        (t.out.get 2).lastOutcome = some (.counts 1 0 1) && (t.out.get 2).slots = [⟨0, 0⟩]) = true
      ∧ after (exec (.takeClaim ownClaim) (claims2 (attempting 4) (takenMap [⟨0, 1⟩]))) (fun t =>
        (t.out.get 2).state = .openShort && (t.out.get 2).queue = [waiting]) = true
      ∧ after (exec (.takeClaim ownClaim) (claims2 (attempting 4) (takenMap [⟨0, 0⟩, ⟨0, 1⟩]))) (fun t =>
        (t.out.get 2).state = .failed && (t.out.get 2).queue = [] && (t.out.get 2).discarded = 1) = true
      ∧ after (exec (.takeClaim ownClaim) (claims2 closing2 LaneMap.cleared)) (fun t =>
        (t.out.get 2).state = .closing && (t.out.get 2).releasesOut = 1 && t.trunk.queue.length = 1) = true := by
  decide +kernel

theorem test_meets_more_states_of_OwnClaimBindsItsSlots :
    (let s := claims2 { attempting 1 with claims := [ownClaim.slots, [⟨3, 0⟩]] } LaneMap.cleared
     settled s = true ∧ (s.out.get 2).claims.erase ownClaim.slots ≠ [])
      ∧ (let s := claims2 { attempting 1 with closePending := true } (takenMap [⟨0, 1⟩])
         settled s = true ∧ (s.out.get 2).closePending = true)
      ∧ (let s := { claimant LaneMap.cleared with roster := Bank.fill 16 RosterEntry.cleared }
         settled s = true ∧ (s.roster.get ownClaim.station).state = .absent)
      ∧ (let s := { claimant LaneMap.cleared with framer := { round5 with framed := false }
                                                  tb := { (claimant LaneMap.cleared).tb with designated := none
                                                                                             election := .backoff 23000 } }
         settled s = true ∧ pauseCause s = true)
      ∧ (settled (claims2 closing2 LaneMap.cleared) = true ∧ closing2.state = .closing) := by decide

theorem test_meets_the_joined_report_of_OwnClaimBindsItsSlots :
    ∀ c ∈ [{ out2 .lost with queue := [waiting], accepted := 1 }, { out2 .lost with closingTo := some .closed },
        { out2 .closed with defn := { (out2 .closed).defn with autoOpen := true } }, out2 .closed, out2 .failed],
      let s := withOut c (sends (.join ownJoin) (some (.join ownJoin)) (inFrame .joining))
      s.powered = true ∧ settled s = true ∧ s.trunk.sending = some ⟨.join ownJoin, some (.join ownJoin), 20000⟩
        ∧ ownJoin.station = stationId s ∧ s.station.state = .joining ∧ (s.out.get 2).state = c.state
        ∧ after (exec (.takeJoin ownJoin) s) (fun t => (t.out.get 2).state =
            (if c.state = .lost && c.closingTo.isNone || c.defn.autoOpen then .opening
              else if c.state = .failed then .failed else .closed)) = true := by decide +kernel

theorem test_meets_the_ended_records_of_ReleaseFreesItsSlots :
    ∀ c ∈ [{ in2 .receiving with lastHolder := some 7, holder := some 5 }, { in2 .receiving with holder := some 5 },
        { in2 .held with lastHolder := some 7 }, in2 .held, { in2 .receiving with endSeen := true }],
      let s := withIn c (peered .joined)
      s.powered = true ∧ settled s = true ∧ takesTables s = true ∧ isOwn (.release release5) s = false ∧ inRack s = true
        ∧ (slotEntry s.map ⟨2, 1⟩).holding = some { holder := release5.station, stream := release5.stream }
        ∧ delivers s = true ∧ s.inb.get 2 = c ∧ c.log.length < 16
        ∧ (let holders := if c.lastHolder = some 7 then [7] else if c.holder = some 5 then [5] else []
           after (exec (.takeRelease release5) s) (fun t => (t.inb.get 2).holder.isNone
             && (t.inb.get 2).log.length = (if c.endSeen then 0 else 1)
             && (holders = [] || (t.inb.get 2).log.map (·.holder) = holders)) = true) := by decide +kernel

/-- A QUIET station at the end of its fifth faulted interval, with channel 2 PAUSED and a slot of its own. -/
def tripping (i : Interval) : State :=
  let s := withOut { out2 .paused with slots := [⟨2, 1⟩], queue := [waiting] }
    (judged .quiet 4 i { echo := 1, line := 0, stuck := 0 })
  { s with map := { LaneMap.cleared with
      entries := LaneMap.cleared.entries.set (slotIndex ⟨2, 1⟩)
        { holding := some { holder := 3, stream := 40 }, grantEpoch := some 9 } } }

set_option maxRecDepth 100000 in
/-- The judgement that isolates takes the own slot out of the map and makes the channel LOST; the interval it begins stands
until the cut-out, and no second judgement comes (R155, R164). -/
theorem test_meets_the_isolation_of_GuardJudgesEachInterval :
    ∀ x ∈ [(Interval.framed, Instr.roundBoundary), (.unframed 24000, .guardPeriodEnd)],
      let s := tripping x.1
      s.powered = true ∧ s.guard.state = .quiet ∧ s.trunk.switch = .inline ∧ s.framer.framed = true
        ∧ s.framer.opening = .begun ∧ (s.out.get 2).state = .paused
        ∧ (slotEntry s.map ⟨2, 1⟩).holding = some { holder := stationId s, stream := 40 }
        ∧ after (exec x.2 s) (fun t =>
            t.guard.state = .isolated && t.guard.interval != .none && (slotEntry t.map ⟨2, 1⟩).holding.isNone
              && (t.out.get 2).state = .lost && (t.out.get 2).queue = [waiting]
              && after (exec x.2 t) (fun u => u.guard.last = t.guard.last && u.guard.interval = t.guard.interval)
              && after (exec .cutOut t) (fun u => u.guard.interval = .none)) = true := by decide +kernel

/-- A MARK that is 3 ticks away sets the note of every channel of a JOINED and of a LEAVING station. -/
theorem test_meets_the_note_in_the_rack_of_MarksAreTaken :
    ∀ st ∈ [StationState.joined, .leaving], ∀ received ∈ [19997, 20003],
      let s := inFrame st
      settled s = true ∧ inRack s = true ∧ s.map.resync ≠ .gathering
        ∧ (2 < (markOf 5).time - received ∨ 2 < received - (markOf 5).time)
        ∧ after (exec (.takeMark (markOf 5) received) s) (fun t =>
            (t.out.get 7).timeStep && (t.inb.get 7).timeStep && t.station.state = st) = true := by decide +kernel

/-- A JOINING station whose source is lost is LISTENING again. -/
theorem test_meets_the_end_of_JOINING_of_SourceLossIsDeclared :
    let s := withOut (out2 .opening) (inFrame .joining)
    s.powered = true ∧ settled s = true ∧ expects s = true ∧ s.station.state = .joining ∧ s.progress.emptyTrunk = false
      ∧ s.progress.leaveClosingDue = false ∧ (s.out.get 2).closePending = false
      ∧ after (exec .markTimeout s) (fun t =>
          t.station.state = .listening && t.station.joinFails = 0 && (t.out.get 2).state = .opening
            && (t.roster.get 1).state = .absent) = true := by decide +kernel

/-- The own RELEASE of a CLOSING channel with more to release, of one toward LOST, and of a CONFLICT one. -/
theorem test_meets_the_own_release_of_ReleaseFreesItsSlots :
    ∀ o ∈ [{ out2 .closing with slots := [⟨2, 1⟩, ⟨3, 1⟩], releasesOut := 2, closingTo := some .lost },
        { out2 .closing with slots := [⟨2, 1⟩], releasesOut := 1, closingTo := some .lost, queue := [waiting] },
        { out2 .conflict with slots := [⟨2, 1⟩], releasesOut := 1 }],
      let s := sends (.release ownRelease) (some (.release (some 2) ownRelease)) (withOut o (inFrame .joined))
      s.powered = true ∧ settled s = true ∧ takesTables s = true
        ∧ s.trunk.sending = some ⟨.release ownRelease, some (.release (some 2) ownRelease), 20000⟩
        ∧ after (exec (.takeRelease ownRelease) s) (fun t =>
            (t.out.get 2).state = (if o.queue = [] then o.state else .lost) && (t.out.get 2).queue = o.queue) = true := by
  decide +kernel

/-! ### The hypotheses of the statements are met: samples and triggers -/

/-- The bytes of the small SAMPLE with a wrong CRC-16. -/
def failedSample : List Byte := (packetBytes (.sample sample5)).dropLast ++ [0]

/-- The JOINED station with an inbound channel 2 and the small map. -/
def receiver (c : InChannel) : State := withIn c (peered .joined)

/-- A delivery record that no test reads. -/
def oldRecord : Delivery :=
  { tag := 29, time := 19000, count := 1, offset := some 0, holder := 5
    flags := { gap := false, invalid := false, invalidSkipped := false, heldDropped := false, newHolder := false
               last := false, ended := false, timeStep := false, freeTime := false, dropped := false
               trigger := false, recordsLost := false, superseded := false } }

set_option maxRecDepth 100000 in
theorem test_meets_a_failed_sample : classify failedSample = .failedSample sample5 := by decide

theorem test_meets_SampleIsStoredInItsRing :
    (∀ c ∈ [in2 .waiting, in2 .receiving, { in2 .receiving with log := List.replicate 16 oldRecord },
        { in2 .receiving with defn := { (in2 .receiving).defn with policy := .skip } },
        { in2 .receiving with committed := 255 }],
      let s := receiver c
      s.powered = true ∧ settled s = true ∧ s.framer.framed = true ∧ delivers s = true
        ∧ (slotEntry s.map ⟨sample5.lane, phaseOf s.framer.round⟩).holding =
            some { holder := sample5.holder, stream := sample5.stream }
        ∧ packetInRange (.sample sample5) = true ∧ (s.inb.get 2).defn.stream = sample5.stream
        ∧ (∀ o : Channel, o ≠ 2 → (s.inb.get o).defn.stream ≠ sample5.stream) ∧ (s.inb.get 2).defn.mode = .ring
        ∧ 0 < (s.inb.get 2).defn.pages ∧ (s.inb.get 2).defn.base.val + (s.inb.get 2).defn.pages ≤ 64
        ∧ (s.inb.get 2).window.state = .idle
        ∧ ((s.inb.get 2).state = .waiting ∨ (s.inb.get 2).state = .receiving))
      ∧ 16 ≤ (List.replicate 16 oldRecord).length ∧ (in2 .waiting).log.length < 16
      ∧ (in2 .receiving).defn.policy = .keep ∧ gathers (receiver (in2 .receiving)) = true := by decide

set_option maxRecDepth 100000 in
theorem test_sample_wraps_in_its_ring :
    after (exec (.takeSample sample5) (receiver { in2 .receiving with committed := 255 })) (fun t =>
      readWord t.mem 1279 = 0x11223344 && readWord t.mem 1024 = 0x55667788 && readByte t.mem 5116 = 0x11
        && (t.inb.get 2).committed = 1 && t.mem.length = 8) = true := by decide

theorem test_meets_SamplesActByChannelAndStation :
    (isOwn (.sample sample5) (peered .joined) = false ∧ packetInRange (.sample sample5) = true)
      ∧ (settled orphaned = true ∧ orphaned.framer.framed = false)
      ∧ (settled (inFrame .listening) = true ∧ inRack (inFrame .listening) = false)
      ∧ (let s := inFrame .joined
         settled s = true ∧ s.framer.framed = true ∧ inRack s = true
           ∧ (slotEntry s.map ⟨sample5.lane, phaseOf s.framer.round⟩).holding
             ≠ some { holder := sample5.holder, stream := sample5.stream }
           ∧ s.tb.role = false ∧ s.map.resync = .none ∧ s.map.stray = 0)
      ∧ (let s := peered .joining
         s.powered = true ∧ settled s = true ∧ s.framer.framed = true ∧ s.station.state = .joining)
      ∧ (∀ c ∈ [in2 .held, in2 .closed, { in2 .receiving with window := { Window.initial with state := .done } },
          pair2 .receiving, { pair2 .receiving with latest := some 0, hold := some 0 }],
        let s := receiver c
        s.powered = true ∧ settled s = true ∧ s.framer.framed = true ∧ delivers s = true
          ∧ (slotEntry s.map ⟨sample5.lane, phaseOf s.framer.round⟩).holding =
              some { holder := sample5.holder, stream := sample5.stream }
          ∧ (s.inb.get 2).defn.stream = sample5.stream
          ∧ (∀ o : Channel, o ≠ 2 → (s.inb.get o).defn.stream ≠ sample5.stream) ∧ s.inb.get 2 = c)
      ∧ (let c := pair2 .receiving
         c.defn.mode = .pair ∧ c.window.state = .idle ∧ c.log.length < 16 ∧ c.latest ≠ some 0 ∧ c.hold ≠ some 0)
      ∧ (let c := { pair2 .receiving with latest := some 0, hold := some 0 }
         c.latest ≠ some 1 ∧ c.hold ≠ some 1 ∧ c.latest = some 0) := by decide

theorem test_meets_TriggerIsTaken :
    (let armed : Window := { Window.initial with state := .armed, start := some .immediate, stop := some (.trigger 4) }
     let s := withIn { in2 .waiting with window := armed } (inFrame .joined)
     s.powered = true ∧ settled s = true ∧ isOwn (.trigger trigger5) s = false
       ∧ packetInRange (.trigger trigger5) = true ∧ inRack s = true ∧ trigger5.station ≠ stationId s
       ∧ s.trig.lastSeq.get trigger5.station ≠ some trigger5.sequence
       ∧ (s.inb.get 2).state = .waiting ∧ (s.inb.get 2).window.state = .armed
       ∧ (s.inb.get 2).window.stop = some (.trigger 4) ∧ (s.inb.get 2).window.taken = none
       ∧ (s.inb.get 2).defn.acceptance = .any ∧ (s.inb.get 0).state = .closed)
      ∧ (settled (inFrame .listening) = true ∧ inRack (inFrame .listening) = false)
      ∧ (let s := inFrame .joined
         let g := { s.trig with pendingTrigger := some { trigger5 with station := 3 } }
         let t := sends (.trigger { trigger5 with station := 3 }) none { s with trig := g }
         settled t = true ∧ t.trunk.sending = some ⟨.trigger { trigger5 with station := 3 }, none, 20000⟩
           ∧ t.trig.pendingTrigger = some { trigger5 with station := 3 }) := by decide

/-- The JOINED station whose condition entry 1 does as given. -/
def wired (filter : Nat) (action : Action) : State :=
  let s := inFrame .joined
  { s with trig := { s.trig with settings :=
      { mask := 0, filter := filter, blanking := 100, table := (Bank.fill 16 Action.nothing).set 1 action } } }

theorem test_meets_EdgesMakeTriggers :
    (∀ a ∈ [Action.nothing, .localTrigger, .rackTrigger],
      let s := wired 0 a
      s.powered = true ∧ settled s = true ∧ watchesLines s = true ∧ s.trig.settings.filter = 0
        ∧ (∀ i, s.trig.candidates.get i = none)
        ∧ (1#4 &&& ~~~s.trig.filtered &&& ~~~s.trig.settings.mask) ≠ 0 ∧ ¬ s.clock.ticks < s.trig.blankUntil
        ∧ s.trig.settings.table.get (1#4 &&& ~~~s.trig.settings.mask).toFin = a
        ∧ s.trig.pendingTrigger = none ∧ s.trunk.switch = .inline)
      ∧ (let s := wired 0 .rackTrigger
         ({ s with trig := { s.trig with pendingTrigger := some trigger5 } } : State).trig.pendingTrigger ≠ none)
      ∧ (watchesLines (wired 9 .nothing) = true ∧ 0 < (wired 9 .nothing).trig.settings.filter)
      ∧ (settled State.reset = true ∧ watchesLines State.reset = false)
      ∧ (let w := wired 9 .rackTrigger
         let c : Candidate := { time := 19990, due := 19999 }
         let s := { w with trig := { w.trig with candidates := (Bank.fill 4 none).set 0 (some c) } }
         settled s = true ∧ s.trig.candidates.get 0 = some c ∧ ∀ j, j ≠ 0 → s.trig.candidates.get j = none) := by
  decide

theorem test_edge_makes_a_rack_trigger :
    after (exec (.triggerLineChange 1) (wired 0 .rackTrigger)) (fun t =>
      t.trig.pendingTrigger = some { station := 3, sequence := 0, time := 20000, entry := 1 }
        && blankingRemaining t = 100) = true := by decide

theorem test_meets_the_pairs_of_SamplesActByChannelAndStation :
    ∀ p ∈ [InvalidPolicy.keep, .skip],
      ∀ x ∈ ([(some 0, some 1), (some 1, some 0), (none, some 0)] : List (Option (Fin 2) × Option (Fin 2))),
        let c := { pair2 .receiving with
          latest := x.1, hold := x.2, defn := { (pair2 .receiving).defn with policy := p } }
        let s := receiver c
        s.powered = true ∧ settled s = true ∧ s.framer.framed = true ∧ delivers s = true ∧ s.inb.get 2 = c
          ∧ c.defn.policy = p ∧ c.window.state = .idle ∧ c.log.length < 16 := by decide

/-- The JOINED station that has counted strays of this round and resyncs in a row. -/
def strayed (strays resyncs : Nat) : State :=
  mapped { LaneMap.cleared with stray := strays, boundariesSince := 0, consecutive := resyncs }

theorem test_meets_the_strays_of_SamplesActByChannelAndStation :
    ∀ x ∈ [(1, 1), (1, 2), (2, 1)],
      let s := strayed x.1 x.2
      s.powered = true ∧ settled s = true ∧ inRack s = true ∧ s.framer.framed = true ∧ s.tb.role = false
        ∧ s.map.resync = .none ∧ s.map.stray = x.1 ∧ s.map.failed = false ∧ s.station.state = .joined
        ∧ (slotEntry s.map ⟨sample5.lane, phaseOf s.framer.round⟩).holding
          ≠ some { holder := sample5.holder, stream := sample5.stream } := by decide

/-- A window with a start and a stop, and the RECEIVING channel it belongs to. -/
def capturing (st : WindowState) (start : WindowStart) (stop : WindowStop) (taken : Option Trigger) : State :=
  receiver { in2 .receiving with
    window := { Window.initial with
      state := st, start := some start, stop := some stop, taken := taken, attach := taken.isSome } }

theorem test_meets_WindowsDecideWhatIsStored :
    ∀ st ∈ [WindowState.armed, .capturing],
      ∀ x ∈ [(WindowStart.immediate, WindowStop.atTime 19900, none), (.immediate, .atTime 19901, none),
          (.atTime 19900, .never, none), (.atTime 19901, .never, none), (.immediate, .count 2, none),
          (.immediate, .count 3, none), (.immediate, .trigger 2, some trigger5), (.immediate, .trigger 3, some trigger5),
          (.immediate, .trigger 2, none)],
        let s := capturing st x.1 x.2.1 x.2.2
        s.powered = true ∧ settled s = true ∧ s.framer.framed = true ∧ delivers s = true
          ∧ isOwn (.sample sample5) s = false ∧ packetInRange (.sample sample5) = true
          ∧ (slotEntry s.map ⟨sample5.lane, phaseOf s.framer.round⟩).holding =
              some { holder := sample5.holder, stream := sample5.stream }
          ∧ (s.inb.get 2).defn.stream = sample5.stream
          ∧ (∀ o : Channel, o ≠ 2 → (s.inb.get o).defn.stream ≠ sample5.stream) ∧ (s.inb.get 2).defn.mode = .ring
          ∧ 0 < (s.inb.get 2).defn.pages ∧ (s.inb.get 2).defn.base.val + (s.inb.get 2).defn.pages ≤ 64
          ∧ (s.inb.get 2).state = .receiving ∧ (s.inb.get 2).window.state = st := by decide

theorem test_windows_stop_at_their_bounds :
    ((([(WindowStart.immediate, WindowStop.atTime 19900, none), (.immediate, .atTime 19901, none),
          (.atTime 19900, .never, none), (.atTime 19901, .never, none), (.immediate, .count 2, none),
          (.immediate, .count 3, none), (.immediate, .trigger 2, some trigger5),
          (.immediate, .trigger 3, some trigger5)] :
            List (WindowStart × WindowStop × Option Trigger)).map fun x =>
        after (exec (.takeSample sample5) (capturing .armed x.1 x.2.1 x.2.2)) (fun t => (t.inb.get 2).window.state = .done))
      = [true, false, false, false, true, false, true, false])
      ∧ after (exec (.takeSample sample5) (capturing .armed (.atTime 19901) .never none)) (fun t =>
        (t.inb.get 2).window.state = .armed && t.mem = [] && (t.inb.get 2).counters.withheld = 1) = true := by
  decide +kernel

theorem test_meets_several_candidates_of_EdgesMakeTriggers :
    let w := wired 9 .rackTrigger
    let c : Candidate := { time := 19990, due := 19999 }
    let d : Candidate := { time := 19991, due := 19999 }
    let e : Candidate := { time := 19995, due := 20004 }
    let s := { w with trig := { w.trig with
      filtered := 2, candidates := (((Bank.fill 4 none).set 0 (some c)).set 1 (some d)).set 3 (some e) } }
    settled s = true ∧ s.trig.candidates.get 0 = some c ∧ s.trig.candidates.get 1 = some d
      ∧ s.trig.candidates.get 2 = none ∧ s.trig.candidates.get 3 = some e
      ∧ after (exec .filterTimeExpiry s) (fun t => t.trig.filtered = 1
          && t.trig.lastMade.map (·.time) = some 19990) = true := by decide

/-! ### The hypotheses of the statements are met: the frame port -/

theorem test_meets_PushIsTakenByState :
    ((inFrame .joined).powered = true ∧ (inFrame .joined).frame = .idle)
      ∧ (∀ st ∈ [OutState.opening, .opened, .openShort, .paused, .lost],
        (out2 st).state ∈ [OutState.opening, .opened, .openShort, .paused, .lost] ∧ (out2 st).drain = false
          ∧ (out2 st).closePending = false ∧ (out2 st).queue.length < 512)
      ∧ (out2 .closed).state ∉ [OutState.opening, .opened, .openShort, .paused, .lost] := by decide

/-- Channel 2 OPEN with a full queue. -/
def full (p : Overflow) : OutChannel :=
  { out2 .opened with defn := { (out2 .opened).defn with policy := p }, queue := List.replicate 512 waiting }

theorem test_meets_full_queues_of_PushIsTakenByState (p : Overflow) :
    (withOut (full p) (inFrame .joined)).frame = .idle ∧ (withOut (full p) (inFrame .joined)).out.get 2 = full p
      ∧ (full p).state = .opened ∧ (full p).drain = false ∧ (full p).closePending = false
      ∧ 512 ≤ (full p).queue.length ∧ (full p).defn.policy = p :=
  ⟨rfl, rfl, rfl, rfl, rfl, Nat.le_of_eq List.length_replicate.symm, rfl⟩

theorem test_meets_OpenOutStartsAnAttempt :
    (let s := withOut (out2 .closed) (inFrame .joined)
     s.powered = true ∧ s.frame = .idle ∧ s.station.state = .joined ∧ (s.out.get 2).state = .closed
       ∧ roomForOrdinary s = true ∧ (s.out.get 2).defn.wanted ≤ 8
       ∧ attemptLists 2 { s with out := s.out.set 2 (openRecord (s.out.get 2)) } = [[⟨0, 0⟩, ⟨0, 1⟩]]
       ∧ attemptLists 2 s ≠ [])
      ∧ (let s := queued (List.replicate 6 (.join ownJoin)) (withOut (out2 .closed) (inFrame .joined))
         roomForOrdinary s = false ∧ attemptLists 2 s ≠ [])
      ∧ (out2 .opened).state ≠ .closed := by decide

theorem test_open_out_queues_a_claim :
    after (exec (.openOut 2) (withOut (out2 .closed) (inFrame .joined))) (fun t =>
      t.trunk.queue = [.claim 2 ownClaim] && (t.out.get 2).state = .opening) = true := by decide

theorem test_meets_ClosingActsByChannelState :
    (∀ c ∈ [out2 .opened, out2 .openShort, out2 .paused, out2 .lost, out2 .failed, out2 .conflict, out2 .opening,
        { out2 .conflict with slots := [⟨2, 1⟩] }, { out2 .opened with slots := [⟨2, 1⟩] }],
      c.drain = false ∧ c.closePending = false ∧ c.queue = [] ∧ c.claims = [] ∧ c.releasesOut = 0)
      ∧ ((withOut (out2 .opened) (inFrame .joined)).powered = true
        ∧ (withOut (out2 .opened) (inFrame .joined)).frame = .idle
        ∧ (withOut (out2 .opened) (inFrame .joined)).framer.framed = true
        ∧ (withOut (out2 .opened) (inFrame .joined)).trunk.sending = none)
      ∧ (withOut (out2 .paused) orphaned).framer.framed = false
      ∧ { out2 .opened with closePending := true }.closePending = true
      ∧ (out2 .closed).state = .closed ∧ { out2 .opened with queue := [waiting] }.queue ≠ []
      ∧ { out2 .opened with drain := true }.drain = true := by decide

theorem test_meets_InboundChannelsOpenCloseAndHold :
    (∀ st ∈ [InState.closed, .waiting, .receiving, .held],
      let s := withIn (in2 st) (peered .joined)
      s.powered = true ∧ s.frame = .idle ∧ (s.inb.get 2).state = st ∧ s.station.state ≠ .setup
        ∧ s.station.state ≠ .setupFault ∧ inRack s = true
        ∧ streamHolder s.map.entries (s.inb.get 2).defn.stream = some 5)
      ∧ streamHolder (inFrame .joined).map.entries 41 = none ∧ State.reset.station.state = .setup := by decide

/-- A window in a given state. -/
def windowed (st : WindowState) : State :=
  withIn { in2 .waiting with window := { Window.initial with state := st } } (inFrame .joined)

theorem test_meets_WindowsAreArmedAndDisarmed :
    (∀ st ∈ [WindowState.idle, .armed, .capturing, .done],
      (windowed st).powered = true ∧ (windowed st).frame = .idle ∧ ((windowed st).inb.get 2).window.state = st
        ∧ ((windowed st).inb.get 2).state ≠ .closed)
      ∧ ((inFrame .joined).inb.get 2).state = .closed := by decide

theorem test_window_counts_at_their_ends :
    after (exec (.armIn 2 .immediate (.count 0)) (windowed .idle))
        (fun t => t.frame = channelResult 9 2 .refusedRange .nothing) = true
      ∧ after (exec (.armIn 2 .immediate (.count 1)) (windowed .idle))
        (fun t => (t.inb.get 2).window.state = .armed) = true
      ∧ after (exec (.armIn 2 .immediate (.trigger 16777215)) (windowed .done))
        (fun t => (t.inb.get 2).window.state = .armed) = true
      ∧ after (exec (.armIn 2 .immediate (.trigger 16777216)) (windowed .idle))
        (fun t => t.frame = channelResult 9 2 .refusedRange .nothing) = true
      ∧ after (exec (.armIn 2 (.atTime 7) (.atTime 7)) (windowed .idle))
        (fun t => t.frame = channelResult 9 2 .refusedRange .nothing) = true
      ∧ after (exec (.armIn 2 (.atTime 7) (.atTime 8)) (windowed .idle))
        (fun t => (t.inb.get 2).window.state = .armed) = true
      ∧ after (exec (.armIn 2 .immediate (.count 0)) (windowed .capturing))
        (fun t => t.frame = channelResult 9 2 .refusedState .nothing) = true := by decide

theorem test_meets_FrameReadsReturnWhatStands :
    (let s := withIn { in2 .closed with log := [oldRecord] } (inFrame .joined)
     s.powered = true ∧ s.frame = .idle ∧ s.station.state ≠ .setup ∧ s.station.state ≠ .setupFault
       ∧ (s.inb.get 2).log = oldRecord :: [] ∧ (s.inb.get 3).log = [])
      ∧ (State.reset.frame = .idle ∧ State.reset.station.state = .setup)
      ∧ (63 < 64 ∧ 1 ≤ (1#16).toNat ∧ 63 * 256 + (255#8).toNat + (1#16).toNat ≤ 16384)
      ∧ ((0#8).toNat * 256 + (0#8).toNat + (256#16).toNat ≤ 16384)
      ∧ ¬ (64#8).toNat < 64 ∧ ¬ 1 ≤ (0#16).toNat ∧ ¬ (257#16).toNat ≤ 256
      ∧ ¬ 63 * 256 + (255#8).toNat + (2#16).toNat ≤ 16384 := by decide

/-- The JOINED station with channel 2 as a pair whose halves stand as given. -/
def paired (latest hold : Option (Fin 2)) : State :=
  withIn { pair2 .receiving with
      latest := latest, hold := hold
      descs := Bank.fill 2 (some { tag := 1, time := 2, count := 3, holder := 5 }) } (inFrame .joined)

theorem test_meets_the_pairs_of_FrameReadsReturnWhatStands :
    (∀ s ∈ [paired none none, paired (some 1) none, paired (some 1) (some 0)],
      s.powered = true ∧ s.frame = .idle ∧ (s.inb.get 2).state ≠ .closed ∧ (s.inb.get 2).defn.mode = .pair)
      ∧ ((paired (some 1) none).inb.get 2).hold = none ∧ ((paired (some 1) none).inb.get 2).latest = some 1
      ∧ ((paired (some 1) none).inb.get 2).descs.get 1 = some { tag := 1, time := 2, count := 3, holder := 5 }
      ∧ ((paired (some 1) (some 0)).inb.get 2).hold ≠ none ∧ ((paired none none).inb.get 2).latest = none
      ∧ (in2 .receiving).defn.mode = .ring := by decide

theorem test_meets_ReturnPairReleasesTheHalf :
    (let s := paired (some 1) (some 1)
     s.powered = true ∧ s.frame = .idle ∧ (s.inb.get 2).state ≠ .closed ∧ (s.inb.get 2).defn.mode = .pair
       ∧ (s.inb.get 2).hold ≠ none ∧ (∃ t, exec (.closeIn 2) s = .next t)
       ∧ ∃ t, exec (.holdIn 2) s = .next t ∨ exec (.resumeIn 2) s = .next t)
      ∧ (let s := withIn (pair2 .closed) (inFrame .joined)
         (s.inb.get 2).state = .closed ∧ s.station.state ≠ .setup ∧ s.station.state ≠ .setupFault
           ∧ ∃ t, exec (.openIn 2) s = .next t) :=
  ⟨⟨by decide, by decide, by decide, by decide, by decide, ⟨_, rfl⟩, _, .inl rfl⟩,
    by decide, by decide, by decide, _, rfl⟩

theorem test_meets_the_drains_of_ClosingActsByChannelState :
    (∀ c ∈ [{ out2 .failed with drain := true }, { out2 .conflict with drain := true }],
      (c.state = .failed ∨ c.state = .conflict) ∧ c.drain = true ∧ c.closePending = false
        ∧ (withOut c (inFrame .joined)).frame = .idle
        ∧ after (exec (.closeNow 2) (withOut c (inFrame .joined))) (fun t =>
            (t.out.get 2).closePending && (t.out.get 2).state = c.state) = true)
      ∧ (let s := withOut { out2 .opening with claims := [[⟨0, 0⟩]] } orphaned
         s.framer.framed = false ∧ s.trunk.sending = none ∧ (s.out.get 2).state = .opening) := by decide

/-! ### The hypotheses of the statements are met: the ports and the service port -/

/-- A frame-port result that waits. -/
def result : FrameResult := { kind := 1, channel := 0, offset := 0, code := .done, payload := .nothing }

/-- A service answer that waits. -/
def answer : ServiceAnswer := { kind := 3, code := .done, payload := .summary 0 }

theorem test_meets_PortsTakeOneRequestAtATime :
    (State.reset.powered = true ∧ State.reset.frame = .idle ∧ State.reset.service = .idle)
      ∧ decodeFrameRequest (List.replicate 16 0) = none ∧ decodeServiceRequest [4, 0, 0] = none
      ∧ ({ State.reset with frame := .answered result } : State).frame = .answered result
      ∧ ({ State.reset with service := .answered answer } : State).service = .answered answer
      ∧ ({ State.reset with frame := .answered result } : State).frame ≠ .idle
      ∧ ({ State.reset with service := .answered answer } : State).service ≠ .idle
      ∧ rowKind (.push 0 0) = .framePort ∧ Instr.push 0 0 ≠ .resultCollected
      ∧ rowKind .rejoin = .servicePort ∧ Instr.rejoin ≠ .serviceAnswerSent := by decide

theorem test_meets_ServiceReadsReturnRecords :
    (∀ s ∈ [State.reset, inFrame .joined, orphaned,
        { inFrame .joined with snapshots := { pending := true, copy := some (snapshotOf orphaned) } }],
      s.powered = true ∧ s.service = .idle)
      ∧ ((inFrame .joined).station.state ≠ .setup ∧ (inFrame .joined).snapshots.copy = none
        ∧ (inFrame .joined).snapshots.pending = false ∧ (inFrame .joined).framer.framed = true)
      ∧ (orphaned.station.state ≠ .setup ∧ orphaned.framer.framed = false)
      ∧ (State.reset.station.state = .setup ∧ RecordClass.station ≠ .setup)
      ∧ (indexInRange .slot 95 = true ∧ indexInRange .slot 96 = false ∧ indexInRange .roster 15 = true
        ∧ indexInRange .roster 16 = false ∧ indexInRange .inbound 7 = true ∧ indexInRange .inbound 8 = false)
      ∧ (snapshotKeeps .guard = true ∧ snapshotKeeps .trigger = false) := by decide

theorem test_meets_ServiceCommandsActByStationState :
    ∀ st ∈ [StationState.setup, .setupFault, .ready, .listening, .learning, .joining, .joined, .leaving, .parked,
        .isolated, .blocked],
      (station st).powered = true ∧ (station st).service = .idle ∧ (station st).station.state = st := by decide

theorem test_rejoin_leaves_the_rack :
    after (exec .rejoin (inFrame .joined)) (fun t =>
      t.station.state = .leaving && t.station.leaveOutcome = some .listening
        && t.trunk.queue = [.leave ⟨3⟩]) = true := by decide

/-- A LEARNING station with a failure of each kind counted, a word in LOST channel 2 and CONFLICT in channel 3. -/
def twiceFailed : State :=
  let s := withOut { out2 .lost with queue := [waiting] } (station .learning)
  { s with
    station := { s.station with learnFails := 2, joinFails := 1 }
    out := s.out.set 3 { out2 .conflict with slots := [⟨2, 1⟩] } }

theorem test_rejoin_and_leave_outside_the_rack :
    settled twiceFailed = true
      ∧ after (exec .rejoin twiceFailed) (fun t =>
          t.station.state = .listening && t.station.learnFails = 0 && t.station.joinFails = 0
            && (t.out.get 2).queue = [waiting] && (t.out.get 3).slots = []) = true
      ∧ after (exec .leave twiceFailed) (fun t =>
          t.station.state = .parked && t.station.learnFails = 2 && t.out = twiceFailed.out) = true := by decide

theorem test_meets_the_records_of_ServiceReadsReturnRecords :
    ((255 : Byte).toNat ≠ 15 ∧ (15 : Byte).toNat = (15 : StationId).val ∧ (95 : Byte).toNat = 23 * 4 + 3
      ∧ (7 : Byte).toNat = (7 : Channel).val)
      ∧ State.reset.service = .idle ∧ State.reset.powered = true := by decide

/-! ### The hypotheses of the statements are met: abandoned attempts, epoch tests, HELD channels -/

theorem test_meets_the_pin_rows_of_EveryCommandAnswersNext :
    unpowered.powered = false
      ∧ after (exec .ejectRise unpowered) (fun t => t.pins.eject && !t.powered) = true
      ∧ after (exec (.triggerLineChange 5) unpowered) (fun t => t.pins.lines = 5) = true := by decide

/-- The JOINING station of an empty trunk with its TAKEOVER still in the queue, and one slot granted. -/
def founding : State :=
  let s := queued [.takeover true 3 2] (joiner true)
  { s with trunk := { s.trunk with switch := .inline }, map := map1, roster := roster5 }

theorem test_meets_the_abandonment_of_MarksAreTaken :
    let s := founding
    s.powered = true ∧ settled s = true ∧ isOwn (.mark (markOf 5)) s = false ∧ packetInRange (.mark (markOf 5)) = true
      ∧ beforeListening s = false ∧ s.framer.framed = false ∧ s.tb.role = false ∧ s.tb.designated = none
      ∧ s.station.state = .joining ∧ s.progress.emptyTrunk = true
      ∧ after (exec (.takeMark (markOf 5) 24000) s) (fun t =>
          t.station.state = .listening && t.trunk.queue = [] && t.map = LaneMap.cleared) = true := by decide

theorem test_meets_the_abandonment_of_TakeoverIsTaken :
    let s := founding
    isOwn (.takeover (takeoverOf 5)) s = false ∧ s.tb.designated = none ∧ s.station.state ≠ .setup
      ∧ s.station.state ≠ .setupFault
      ∧ after (exec (.takeTakeover (takeoverOf 5) 20000) s) (fun t =>
          t.station.state = .listening && t.trunk.queue = [] && t.tb.designated = some 5) = true := by decide

/-- The JOINED station on an unframed trunk without a source, its map as given. -/
def bereft (m : LaneMap) : State := { orphaned with map := m }

theorem test_meets_the_epoch_test_of_TakeoverIsTaken :
    (∀ m ∈ [LaneMap.cleared, { LaneMap.cleared with failed := true },
        { LaneMap.cleared with boundariesSince := 11, consecutive := 2 },
        { LaneMap.cleared with resync := .reconciling, outstanding := 1 }, { map1 with resync := .gathering }],
      let s := bereft m
      s.powered = true ∧ settled s = true ∧ isOwn (.takeover (takeoverOf 5)) s = false ∧ s.tb.role = false
        ∧ s.tb.designated = none ∧ inRack s = true ∧ s.station.state = .joined ∧ s.trunk.sending = none
        ∧ (takeoverOf 5).epoch = s.map.epoch ∧ { takeoverOf 5 with epoch := 1 }.epoch ≠ s.map.epoch)
      ∧ inRack (station .listening) = false ∧ (station .listening).tb.designated = none
      ∧ packetInRange (.takeover { takeoverOf 5 with epoch := 1 }) = true
      ∧ after (exec (.takeTakeover { takeoverOf 5 with epoch := 1 } 20000) (bereft map1)) (fun t =>
          t.map.resync = .gathering && t.map.lastTest = some false
            && t.flags &&& flagBit .map = flagBit .map) = true := by
  decide

theorem test_meets_the_epoch_test_at_a_loss_of_TakeoverIsTaken :
    let s := { inFrame .joined with map := map1 }
    let s := { s with tb := { s.tb with missed := 1 } }
    s.powered = true ∧ settled s = true ∧ s.tb.designated = some 1 ∧ overdue s = true ∧ inRack (declareLoss s) = true
      ∧ after (exec (.takeTakeover { takeoverOf 5 with epoch := 1 } 20000) s) (fun t =>
          t.map.resync = .gathering && t.map.gatherMarks = 0 && !t.framer.framed) = true := by decide +kernel

/-- A gathering ends at the gain of the role, by an own TAKEOVER and by a HANDOFF that names the station. -/
theorem test_meets_the_gain_in_a_gathering_of_TakeoverIsTaken_and_HandoffIsTaken :
    (let s := { taker with map := { ownMap with resync := .gathering } }
     s.powered = true ∧ settled s = true ∧ canGainRole s = true ∧ s.tb.role = false ∧ s.map.resync = .gathering
       ∧ s.trunk.sending = some ⟨.takeover (takeoverOf 3), some (.takeover false (stationId s) 2), 20000⟩
       ∧ after (exec (.takeTakeover (takeoverOf 3) 20000) s) (fun t =>
           t.tb.role && t.map.resync = .reconciling && t.trunk.queue = [.release none ownRelease]) = true)
      ∧ (let s := gathering map1
         s.powered = true ∧ settled s = true ∧ canGainRole s = true ∧ s.tb.designated = some 1 ∧ s.map.resync = .gathering
           ∧ after (exec (.takeHandoff (handoff1 (some 3))) s) (fun t => t.tb.role && t.map.resync = .none) = true) := by
  decide

theorem test_meets_the_states_without_tables_of_ReleaseFreesItsSlots :
    let s := { inFrame .listening with map := map1 }
    s.powered = true ∧ settled s = true ∧ takesTables s = false ∧ isOwn (.release release5) s = false
      ∧ packetInRange (.release release5) = true
      ∧ after (exec (.takeRelease release5) s) (fun t => t.map = map1) = true := by decide

/-- The RECEIVING station with a window in a state, an acceptance and a trigger taken or not, its line 0 making a trigger. -/
def triggering (st : WindowState) (accepts : Acceptance) (stop : WindowStop) (taken : Option Trigger) : State :=
  let s := capturing st .immediate stop taken
  let c := s.inb.get 2
  withIn { c with defn := { c.defn with acceptance := accepts } }
    { s with trig := (wired 0 .localTrigger).trig }

theorem test_meets_the_windows_of_EdgesMakeTriggers :
    ([(WindowState.armed, Acceptance.any, WindowStop.trigger 2, none), (.capturing, .localOnly, .trigger 2, none),
        (.armed, .fromStation 3, .trigger 2, none), (.armed, .fromStation 5, .trigger 2, none),
        (.done, .any, .trigger 2, none), (.armed, .any, .never, none), (.armed, .any, .trigger 2, some trigger5)].map
      fun x => let s := triggering x.1 x.2.1 x.2.2.1 x.2.2.2
        s.powered && settled s && watchesLines s && after (exec (.triggerLineChange 1) s) (fun t =>
          (t.inb.get 2).window.taken.map (·.station) = some 3))
      = [true, true, true, false, false, false, false] := by decide

/-- An attempt of two CLAIMs: the first is queued, the second is queued too or waits. -/
theorem test_meets_an_attempt_of_two_claims_of_OpenOutStartsAnAttempt :
    ∀ n ∈ [0, 5],
      let c := { out2 .closed with defn := { (out2 .closed).defn with wanted := 6 } }
      let s := queued (List.replicate n (.join ownJoin)) (withOut c (inFrame .joined))
      s.powered = true ∧ s.frame = .idle ∧ s.station.state = .joined ∧ (s.out.get 2).state = .closed
        ∧ roomForOrdinary s = true
        ∧ (attemptLists 2 { s with out := s.out.set 2 (openRecord (s.out.get 2)) }).map List.length = [4, 2]
        ∧ after (exec (.openOut 2) s) (fun t => t.trunk.queue.length + t.trunk.waiting.length = n + 2) = true := by
  decide

/-- Channel 2 HELD, with packets of its stream dropped or none. -/
def held (dropped : Nat) (s : State) : State := withIn { in2 .held with heldDrop := dropped } s

theorem test_meets_the_held_channels_of_withdrawals :
    ∀ n ∈ [0, 2],
      let r := held n (inFrame .listening)
      let j := held n (inFrame .joining)
      let l := held n (left .listening)
      (r.powered = true ∧ r.service = .idle ∧ (r.inb.get 2).state = .held ∧ (r.inb.get 2).heldDrop = n)
        ∧ settled j = true ∧ expects j = true ∧ settled l = true ∧ expects l = true
        ∧ (∀ x ∈ [(Instr.rejoin, r), (.rejoin, j), (.leave, j), (.ejectRise, j), (.markTimeout, j), (.markTimeout, l)],
            after (exec x.1 x.2) (fun t => (t.inb.get 2).state = .waiting && (t.inb.get 2).heldDrop = 0
              && (t.inb.get 2).pendingFlags.heldDropped = decide (0 < n)) = true) := by decide +kernel

/-! ### The hypotheses of the statements are met: every step, and the formats -/

theorem test_meets_the_invariants :
    (inFrame .joined).powered = true ∧ settled (inFrame .joined) = true ∧ rackConsistent (inFrame .joined) = true
      ∧ streamsUndivided (inFrame .joined) = true ∧ queuesSound (inFrame .joined) = true
      ∧ outboundWordsBalance (inFrame .joined) = true := by decide

set_option maxRecDepth 100000 in
theorem test_meets_a_step :
    (∃ t, step { inFrame .joined with pending := [.roundBoundary] } = .next t ∧ t.powered = true)
      ∧ settled { inFrame .joined with pending := [.roundBoundary] } = true :=
  ⟨⟨_, rfl, by decide⟩, by decide⟩

theorem test_meets_PacketsReadBackAsSent :
    packetInRange (.sample sample5) = true ∧ packetInRange (.mark (markOf 65535)) = true := by decide

set_option maxRecDepth 100000 in
theorem test_claim_reads_back : classify (packetBytes (.claim (claimOf 5))) = .passed (.claim (claimOf 5)) := by decide

theorem test_meets_EveryStepKeepsTheRecordsInRange :
    (∀ s ∈ [State.reset, inFrame .joined, { inFrame .joined with snapshots := { pending := true, copy := none } }],
      guardInRange s = true ∧ portsRest s = true ∧ snapshotAwaitsBoundary s = true)
      ∧ (∃ t, step { inFrame .joined with pending := [.snapshot] } = .next t) := ⟨by decide, _, rfl⟩

/-! ### The table spells no words, so no word is a command -/

theorem test_no_word_is_a_command (n w : Nat) : decodeTableWord n w = none := rfl

end Sys2Proof.Tests
end

section
/-! PROOFS. The reader hold of a PAIR channel: what releases it, what keeps it, and that no word of its area is written
(R127). First the rules of the operations, then the requests, then the obligation. -/
namespace Sys2Proof.Machine

/-! ### A channel request that the frame port takes -/

/-- An IDLE port in a station with supply takes the request: the decision's state stands, and its result waits (R169). -/
theorem channelRequest_taken {s : State} (hp : s.powered = true) (hi : s.frame = .idle) (kind : Nat) (ch : Channel)
    (decide : State → Decision) :
    channelRequest kind ch decide s =
      .next { (decide s).2.2 with frame := channelResult kind ch (decide s).1 (decide s).2.1 } := by
  simp [channelRequest, frameRequest, channelResult, hp, hi]

/-- The answer of the port touches neither the inbound channels nor Sample Memory: what a taken request does to them is
what its decision does. -/
theorem inb_mem_of_channelRequest {s t : State} (hp : s.powered = true) (hi : s.frame = .idle) {kind : Nat}
    {ch : Channel} {decide : State → Decision} (h : channelRequest kind ch decide s = .next t) :
    t.inb = (decide s).2.2.inb ∧ t.mem = (decide s).2.2.mem := by
  rw [channelRequest_taken hp hi] at h
  cases h
  exact ⟨rfl, rfl⟩

/-! ### The reader hold under the record changes of an inbound channel -/

@[simp] theorem settleHold_hold (c : InChannel) : (settleHold c).hold = c.hold := rfl

@[simp] theorem toWaiting_hold (c : InChannel) : (toWaiting c).hold = c.hold := by
  unfold toWaiting
  split <;> rfl

/-- Following a stream's holder sets the state and the stream holder, and so nothing of the pair's reader. -/
@[simp] theorem followHolder_pair (c : InChannel) (s : State) :
    (followHolder c s).hold = c.hold ∧ (followHolder c s).latest = c.latest ∧ (followHolder c s).descs = c.descs := by
  unfold followHolder
  split <;> exact ⟨rfl, rfl, rfl⟩

@[simp] theorem closedIn_hold (c : InChannel) : (closedIn c).hold = none := rfl

theorem isOpenPair_iff (c : InChannel) : isOpenPair c = true ↔ c.state ≠ .closed ∧ c.defn.mode = .pair := by
  simp [isOpenPair]

/-! ### What the requests decide -/

theorem definitionsLoaded_iff (s : State) :
    definitionsLoaded s = true ↔ s.station.state ≠ .setup ∧ s.station.state ≠ .setupFault := by
  simp [definitionsLoaded, setupEnded]

theorem decideReturnPair_refuses {ch : Channel} {s : State}
    (h : (s.inb.get ch).state = .closed ∨ (s.inb.get ch).defn.mode = .ring ∨ (s.inb.get ch).hold = none) :
    decideReturnPair ch s = refuseRequest .refusedState s := by
  refine if_neg fun ⟨hpair, hheld⟩ => ?_
  obtain ⟨hopen, hmode⟩ := (isOpenPair_iff _).mp hpair
  rcases h with hclosed | hring | hnone
  · exact hopen hclosed
  · simp [hmode] at hring
  · simp [hnone] at hheld

theorem decideReturnPair_releases {ch : Channel} {s : State} (hopen : (s.inb.get ch).state ≠ .closed)
    (hmode : (s.inb.get ch).defn.mode = .pair) (hheld : (s.inb.get ch).hold ≠ none) :
    decideReturnPair ch s = answerRequest .done (setIn ch { s.inb.get ch with hold := none } s) :=
  if_pos ⟨(isOpenPair_iff _).mpr ⟨hopen, hmode⟩, Option.isSome_iff_ne_none.mpr hheld⟩

theorem decideCloseIn_closes {ch : Channel} {s : State} (hopen : (s.inb.get ch).state ≠ .closed) :
    decideCloseIn ch s = answerRequest .done (setIn ch (closedIn (s.inb.get ch)) s) :=
  if_neg hopen

theorem decideOpenIn_opens {ch : Channel} {s : State} (hclosed : (s.inb.get ch).state = .closed)
    (hloaded : definitionsLoaded s = true) :
    decideOpenIn ch s = answerRequest .done
      (setIn ch (followHolder { InChannel.initial with defn := (s.inb.get ch).defn } s) s) :=
  if_pos ⟨hclosed, hloaded⟩

/-- HOLD-IN keeps the reader hold, whether it is taken or refused (R127, R128). -/
@[simp] theorem decideHoldIn_hold (ch : Channel) (s : State) :
    ((decideHoldIn ch s).2.2.inb.get ch).hold = (s.inb.get ch).hold := by
  unfold decideHoldIn
  dsimp only
  split
  · simp [answerRequest]
  · rfl

/-- RESUME-IN keeps the reader hold, whether it is taken or refused (R127, R129). -/
@[simp] theorem decideResumeIn_hold (ch : Channel) (s : State) :
    ((decideResumeIn ch s).2.2.inb.get ch).hold = (s.inb.get ch).hold := by
  unfold decideResumeIn
  dsimp only
  split
  · simp [answerRequest]
  · rfl

/-- A withdrawal does to the inbound channels what R137 says and nothing else. -/
theorem withdraw_inb (k : Withdrawal) (s : State) : (withdraw k s).inb = s.inb.map toWaiting := by
  simp [withdraw, inboundWaits]

/-! ### RETURN-PAIR and the requests beside it, as the port answers them -/

theorem exec_returnPair_refused {ch : Channel} {s : State} (hp : s.powered = true) (hi : s.frame = .idle)
    (h : (s.inb.get ch).state = .closed ∨ (s.inb.get ch).defn.mode = .ring ∨ (s.inb.get ch).hold = none) :
    exec (.returnPair ch) s = .next { s with frame := channelResult 14 ch .refusedState .nothing } :=
  calc exec (.returnPair ch) s
    _ = channelRequest 14 ch (decideReturnPair ch) s := rfl
    _ = _ := by rw [channelRequest_taken hp hi, decideReturnPair_refuses h]; rfl

theorem exec_returnPair_done {ch : Channel} {s : State} (hp : s.powered = true) (hi : s.frame = .idle)
    (hopen : (s.inb.get ch).state ≠ .closed) (hmode : (s.inb.get ch).defn.mode = .pair)
    (hheld : (s.inb.get ch).hold ≠ none) :
    exec (.returnPair ch) s = .next { s with
      inb := s.inb.set ch { s.inb.get ch with hold := none }, frame := channelResult 14 ch .done .nothing } :=
  calc exec (.returnPair ch) s
    _ = channelRequest 14 ch (decideReturnPair ch) s := rfl
    _ = _ := by rw [channelRequest_taken hp hi, decideReturnPair_releases hopen hmode hheld]; rfl

theorem exec_closeIn_releases {ch : Channel} {s t : State} (hp : s.powered = true) (hi : s.frame = .idle)
    (hopen : (s.inb.get ch).state ≠ .closed) (h : exec (.closeIn ch) s = .next t) :
    (t.inb.get ch).hold = none ∧ t.mem = s.mem := by
  obtain ⟨hinb, hmem⟩ := inb_mem_of_channelRequest hp hi (decide := decideCloseIn ch) h
  rw [hinb, hmem, decideCloseIn_closes hopen]
  simp [answerRequest]

theorem exec_openIn_startsEmpty {ch : Channel} {s t : State} (hp : s.powered = true) (hi : s.frame = .idle)
    (hclosed : (s.inb.get ch).state = .closed) (hloaded : definitionsLoaded s = true)
    (h : exec (.openIn ch) s = .next t) :
    (t.inb.get ch).hold = none ∧ (t.inb.get ch).latest = none ∧ (∀ half, (t.inb.get ch).descs.get half = none)
      ∧ t.mem = s.mem := by
  obtain ⟨hinb, hmem⟩ := inb_mem_of_channelRequest hp hi (decide := decideOpenIn ch) h
  rw [hinb, hmem, decideOpenIn_opens hclosed hloaded]
  simp [answerRequest, InChannel.initial, InRun.initial]

theorem exec_holdIn_keepsHold {ch : Channel} {s t : State} (hp : s.powered = true) (hi : s.frame = .idle)
    (h : exec (.holdIn ch) s = .next t) : (t.inb.get ch).hold = (s.inb.get ch).hold ∧ t.mem = s.mem := by
  obtain ⟨hinb, hmem⟩ := inb_mem_of_channelRequest hp hi (decide := decideHoldIn ch) h
  simp [hinb, hmem]

theorem exec_resumeIn_keepsHold {ch : Channel} {s t : State} (hp : s.powered = true) (hi : s.frame = .idle)
    (h : exec (.resumeIn ch) s = .next t) : (t.inb.get ch).hold = (s.inb.get ch).hold ∧ t.mem = s.mem := by
  obtain ⟨hinb, hmem⟩ := inb_mem_of_channelRequest hp hi (decide := decideResumeIn ch) h
  simp [hinb, hmem]

theorem withdraw_keepsHold (k : Withdrawal) (ch : Channel) (s : State) :
    ((withdraw k s).inb.get ch).hold = (s.inb.get ch).hold ∧ (withdraw k s).mem = s.mem := by
  simp [withdraw_inb]

/-- Settles O50, clause by clause from the rules of the requests and of the withdrawal. -/
theorem returnPairReleasesTheHalf : Obligations.ReturnPairReleasesTheHalf := by
  intro ch s hp hi
  refine ⟨exec_returnPair_refused hp hi, exec_returnPair_done hp hi, ?closeIn, ?openIn, ?holdAndResume, ?withdrawal⟩
  case closeIn => exact fun hopen t h => exec_closeIn_releases hp hi hopen h
  case openIn =>
    intro hclosed hsetup hfault t h
    exact exec_openIn_startsEmpty hp hi hclosed ((definitionsLoaded_iff s).mpr ⟨hsetup, hfault⟩) h
  case holdAndResume =>
    rintro t (hHold | hResume)
    · exact exec_holdIn_keepsHold hp hi hHold
    · exact exec_resumeIn_keepsHold hp hi hResume
  case withdrawal => exact fun k => withdraw_keepsHold k ch s

end Sys2Proof.Machine
end

section
/-! PROOFS. ARM-IN and DISARM-IN: the range of the window operands, what each request decides, and what the port answers
(R146). -/
namespace Sys2Proof.Machine

/-! ### The range of the window operands -/

theorem countInRange_eq_false_iff (n : Nat) : countInRange n = false ↔ n = 0 ∨ 16777215 < n := by
  rw [countInRange, Bool.and_eq_false_iff, decide_eq_false_iff_not, decide_eq_false_iff_not, Nat.not_le, Nat.not_le,
    Nat.lt_one_iff, Config.windowCountMax]

/-- The operands of an ARM-IN that R146 refuses: a count that is 0 or too large, or a stop time that is not later than the
start time. -/
def ArmInBeyond (start : WindowStart) (stop : WindowStop) : Prop :=
  (∃ n, (stop = .count n ∨ stop = .trigger n) ∧ (n = 0 ∨ 16777215 < n))
    ∨ (∃ a b, start = .atTime a ∧ stop = .atTime b ∧ b ≤ a)

/-- The range check of ARM-IN fails exactly on the operands that R146 refuses. -/
theorem armInRange_eq_false_iff (start : WindowStart) (stop : WindowStop) :
    armInRange start stop = false ↔ ArmInBeyond start stop := by
  cases stop with
  | never => simp [armInRange, ArmInBeyond]
  | count n => simp [armInRange, ArmInBeyond, countInRange_eq_false_iff]
  | trigger n => simp [armInRange, ArmInBeyond, countInRange_eq_false_iff]
  | atTime b =>
    cases start with
    | immediate => simp [armInRange, ArmInBeyond]
    | atTime a => simp [armInRange, ArmInBeyond]

/-! ### What the requests decide -/

/-- R146 does not let the channel take an ARM-IN: it is CLOSED, or its window is ARMED or CAPTURING. -/
def ArmInBusy (c : InChannel) : Prop :=
  c.state = .closed ∨ c.window.state = .armed ∨ c.window.state = .capturing

section
variable {ch : Channel} {start : WindowStart} {stop : WindowStop} {s : State}

theorem decideArmIn_of_busy (hbusy : ArmInBusy (s.inb.get ch)) :
    decideArmIn ch start stop s = refuseRequest .refusedState s :=
  if_pos hbusy

theorem decideArmIn_of_beyond (hfree : ¬ArmInBusy (s.inb.get ch)) (hbeyond : ArmInBeyond start stop) :
    decideArmIn ch start stop s = refuseRequest .refusedRange s := by
  have hrange : armInRange start stop = false := (armInRange_eq_false_iff start stop).mpr hbeyond
  exact (if_neg hfree).trans (if_pos (by simp [hrange]))

theorem decideArmIn_arms (hfree : ¬ArmInBusy (s.inb.get ch)) (hwithin : ¬ArmInBeyond start stop) :
    decideArmIn ch start stop s =
      answerRequest .done (setIn ch { s.inb.get ch with window := armedWindow start stop } s) := by
  have hrange : armInRange start stop ≠ false := mt (armInRange_eq_false_iff start stop).mp hwithin
  exact (if_neg hfree).trans (if_neg (by simpa using hrange))

theorem decideDisarmIn_refuses (hclosed : (s.inb.get ch).state = .closed) :
    decideDisarmIn ch s = refuseRequest .refusedState s :=
  if_pos hclosed

theorem decideDisarmIn_resets (hopen : (s.inb.get ch).state ≠ .closed) :
    decideDisarmIn ch s = answerRequest .done (setIn ch { s.inb.get ch with window := Window.initial } s) :=
  if_neg hopen

/-! ### What the port answers -/

/-- An IDLE port hands on what the request's decision came to: its code, what it carries and the state it leaves (R169). -/
theorem channelRequest_of_decision (hp : s.powered = true) (hi : s.frame = .idle) (kind : Nat)
    {decide : State → Decision} {code : FrameCode} {payload : FramePayload} {u : State}
    (hdecide : decide s = (code, payload, u)) :
    channelRequest kind ch decide s = .next { u with frame := channelResult kind ch code payload } := by
  rw [channelRequest_taken hp hi, hdecide]

theorem exec_armIn_eq : exec (.armIn ch start stop) s = channelRequest 9 ch (decideArmIn ch start stop) s := rfl

theorem exec_disarmIn_eq : exec (.disarmIn ch) s = channelRequest 10 ch (decideDisarmIn ch) s := rfl

end

/-- Settles O48: each clause is one branch of the request's decision, as the port answers it. -/
theorem windowsAreArmedAndDisarmed : Obligations.WindowsAreArmedAndDisarmed := by
  intro ch start stop s hp hi
  simp only [exec_armIn_eq, exec_disarmIn_eq]
  refine ⟨?armBusy, ?armBeyond, ?arms, ?disarmClosed, ?disarms⟩
  case armBusy => exact fun hbusy => channelRequest_of_decision hp hi 9 (decideArmIn_of_busy hbusy)
  case armBeyond =>
    exact fun hfree hbeyond => channelRequest_of_decision hp hi 9 (decideArmIn_of_beyond hfree hbeyond)
  case arms => exact fun hfree hwithin => channelRequest_of_decision hp hi 9 (decideArmIn_arms hfree hwithin)
  case disarmClosed => exact fun hclosed => channelRequest_of_decision hp hi 10 (decideDisarmIn_refuses hclosed)
  case disarms => exact fun hopen => channelRequest_of_decision hp hi 10 (decideDisarmIn_resets hopen)

end Sys2Proof.Machine
end
